-- ==== Sys2Proof/Word.lean ====
section
/-! DEFINITION. The word types of the SD-208: what the manual treats as bits, and the index types of its fixed tables. -/

namespace Sys2Proof

/-- One byte of a frame (R168). -/
abbrev Byte := BitVec 8

/-- A 32-bit tick (R18): the tick counter's value, wrapping after 2^32 ticks. -/
abbrev Tick := BitVec 32

/-- The 16-bit stamp at the head of a sample payload (R20, R169). -/
abbrev Stamp := BitVec 16

/-- A mould ID as a frame carries it (R2). -/
abbrev MouldId := BitVec 16

/-- A press cycle number, from the CYCLE_START marker (R30). -/
abbrev CycleNumber := BitVec 32

/-- The tag of a request, the low four bits of its tag byte (R158). -/
abbrev Tag := BitVec 4

/-- A sample channel, 0-7. -/
abbrev Chan := Fin 8

/-- A mould slot, 0-7 (R1). -/
abbrev SlotIx := Fin 8

/-- A zone position in a slot, 0-15 (R6). -/
abbrev ZoneIx := Fin 16

/-- A fault class, 0-7 (R121). -/
abbrev ClassIx := Fin 8

end Sys2Proof
end

