-- ==== Sys2Proof/Syntax.lean ====
section
/-! DEFINITION. The commands of the SD-208, whole: one constructor of Instr for each row of spec/opcode_table.json, with the
row's operands. A command is what reaches the part from outside (a frame, a link symbol, an edge, a pin) or what happens in
the part by itself (a tick, an expiry, a start or an end of a transmission). -/

namespace Sys2Proof

/-- The phase a PHASE marker carries, codes 1-5 (R170). -/
inductive MarkerPhase where
  | fill
  | previb
  | mainvib
  | strip
  | ret
  deriving DecidableEq, Repr

/-- How the reception of a frame ended (R42): by the end delimiter, by a start delimiter or another link symbol inside the
open frame, or by the frame reaching 256 bytes. -/
inductive FrameEnd where
  | endDelimiter
  | startDelimiter
  | linkSymbol
  | overlong
  deriving DecidableEq, Repr

/-- The configuration items 1-17 (R171). -/
inductive ConfigItem where
  | channelEnable
  | floorTrack
  | forwardingPolicy
  | pre
  | post
  | lossTimeout
  | strokeMin
  | strokeMax
  | pairSpan
  | maxCycleTicks
  | settleTimeout
  | eventReports
  | linkErrLimit
  | classMask
  | classAction
  | holdMs
  | rejectMs
  deriving DecidableEq, Repr

/-- The nine bytes of a channel record, field by field (R172). -/
structure ChannelFields where
  marginVib : BitVec 16
  marginStrip : BitVec 16
  marginOther : BitVec 16
  hysteresis : BitVec 16
  deadTime : Byte
  deriving DecidableEq, Repr

/-- The nineteen bytes of a zone definition, field by field (R172), as a WRITE_ZONE carries them and before any check. -/
structure ZoneFields where
  /-- offset 0, bits 1-0: 0 UNDEFINED, 1 PAIR, 2 SINGLE -/
  kind : BitVec 2
  /-- offset 0, bits 5-2 -/
  tripCycles : BitVec 4
  /-- offset 0, bit 6, which must be 0 -/
  spare : BitVec 1
  /-- offset 0, bit 7 -/
  requirePhase : BitVec 1
  /-- offset 1, bits 7-4 -/
  chX : BitVec 4
  /-- offset 1, bits 3-0 -/
  chY : BitVec 4
  /-- offset 2, signed -/
  dmin : Byte
  /-- offset 3, signed -/
  dmax : Byte
  /-- offset 4; bits 6-7 must be 0 -/
  phaseMask : Byte
  gateLo : Byte
  gateHi : Byte
  /-- offsets 7-9 -/
  minArea : BitVec 24
  countLimit : Byte
  /-- offset 11, bits 7-4 -/
  areaShift : BitVec 4
  /-- offset 11, bits 3-0 -/
  leakShift : BitVec 4
  watchLevel : BitVec 16
  watchHyst : BitVec 16
  tripLevel : BitVec 16
  /-- offset 18, bits 2-0 -/
  watchCode : BitVec 3
  /-- offset 18, bit 3 -/
  watchRepeat : BitVec 1
  /-- offset 18, bits 6-4 -/
  crackCode : BitVec 3
  /-- offset 18, bit 7 -/
  crackRepeat : BitVec 1
  deriving DecidableEq, Repr

/-- The commands of the part, one constructor for each row of the table of operations and events. A request's row is the
arrival of that request's REQUEST frame on the line link, which management executes as R157 gives
(notes/assumptions/2.md). -/
inductive Instr where
  /-- POWER_ON_RESET (R41) -/
  | powerOnReset
  /-- PIN_RESET (R41): nRST goes low. -/
  | pinReset
  /-- NRST_RELEASE (R18): nRST goes high. -/
  | nrstRelease
  /-- STROKE_EDGE (R21): a rising edge on STROKE. -/
  | strokeEdge
  /-- STROKE_STILLNESS (R22) -/
  | strokeStillness
  /-- STROKE_LOST_EXPIRY (R25) -/
  | strokeLostExpiry
  /-- CLOSED_HORIZON_EXPIRY (R29) -/
  | closedHorizonExpiry
  /-- SAMPLE_FRAME (R55): a CRC-valid SAMPLE frame of a channel, with its payload. -/
  | sampleFrame (ch : Chan) (payload : List Byte)
  /-- HEAD_FRAME_RELAY (R45): a CRC-valid HEAD frame to 0x30 on the head link. -/
  | headFrameRelay (payload : List Byte)
  /-- HEAD_LINK_BAD_FRAME (R42): bytes received on the head link and how their reception ended. -/
  | headLinkBadFrame (bytes : List Byte) (ended : FrameEnd)
  /-- HEAD_LINK_MISADDRESSED (R44): a CRC-valid head link frame, by address, kind and payload. -/
  | headLinkMisaddressed (address kind : Byte) (payload : List Byte)
  /-- LOSS_TIMEOUT (R49): the loss timer of a channel expires. -/
  | lossTimeout (ch : Chan)
  /-- CYCLE_TIMEOUT (R35) -/
  | cycleTimeout
  /-- SETTLE_TIMEOUT (R37) -/
  | settleTimeout
  /-- HOLD_TIMER_EXPIRY (R129) -/
  | holdTimerExpiry
  /-- REJECT_TIMER_EXPIRY (R132) -/
  | rejectTimerExpiry
  /-- CYCLE_START (R31): the marker's mould ID and cycle number. -/
  | cycleStart (mould : MouldId) (number : CycleNumber)
  /-- PHASE (R32) -/
  | phase (p : MarkerPhase)
  /-- CYCLE_END (R33) -/
  | cycleEnd
  /-- MARKER_FORMAT_ERROR (R27): the payload of a CRC-valid MARKER frame to 0x20. -/
  | markerFormatError (payload : List Byte)
  /-- REQUEST_ENQUEUE (R156): the payload of a CRC-valid REQUEST frame to 0x20, whatever it holds. -/
  | requestEnqueue (payload : List Byte)
  /-- HEAD_BOUND_ENQUEUE (R155): a HEAD frame to head 0-3, addresses 0x10-0x13. -/
  | headBoundEnqueue (head : Fin 4) (payload : List Byte)
  /-- LINE_LINK_BAD_FRAME (R152) -/
  | lineLinkBadFrame (bytes : List Byte) (ended : FrameEnd)
  /-- LINE_LINK_MISADDRESSED (R153) -/
  | lineLinkMisaddressed (address kind : Byte) (payload : List Byte)
  /-- PAUSE (R148) -/
  | pause
  /-- RESUME (R148) -/
  | resume
  /-- LINE_TX_START (R146): the arbiter's choice. -/
  | lineTxStart
  /-- LINE_TX_COMPLETE (R146) -/
  | lineTxComplete
  /-- HEAD_TX_START (R155) -/
  | headTxStart
  /-- HEAD_TX_COMPLETE (R155) -/
  | headTxComplete
  /-- BAD_REQUEST (R158): the payload of a REQUEST that fails the form check. -/
  | badRequest (payload : List Byte)
  /-- READ_STATUS (R159) -/
  | readStatus (tag : Tag)
  /-- READ_COUNTERS (R160), with any clear flag but 1. -/
  | readCounters (tag : Tag) (flag : Byte)
  /-- READ_COUNTERS with the clear flag 1 (R160). -/
  | readCountersClear (tag : Tag)
  /-- GET_CONFIG (R161) -/
  | getConfig (tag : Tag) (item : ConfigItem) (index : Byte)
  /-- SET_CONFIG of channel_enable (R47) -/
  | setChannelEnable (tag : Tag) (index value : Byte)
  /-- SET_CONFIG of floor_track (R58) -/
  | setFloorTrack (tag : Tag) (index value : Byte)
  /-- SET_CONFIG of the forwarding policy (R149) -/
  | setForwardingPolicy (tag : Tag) (index value : Byte)
  /-- SET_CONFIG of pre (R149) -/
  | setPre (tag : Tag) (index value : Byte)
  /-- SET_CONFIG of post (R149) -/
  | setPost (tag : Tag) (index value : Byte)
  /-- SET_CONFIG of loss_timeout (R49) -/
  | setLossTimeout (tag : Tag) (index : Byte) (value : BitVec 16)
  /-- SET_CONFIG of stroke_min (R23) -/
  | setStrokeMin (tag : Tag) (index : Byte) (value : BitVec 16)
  /-- SET_CONFIG of stroke_max (R23) -/
  | setStrokeMax (tag : Tag) (index : Byte) (value : BitVec 16)
  /-- SET_CONFIG of pair_span (R85) -/
  | setPairSpan (tag : Tag) (index value : Byte)
  /-- SET_CONFIG of max_cycle_ticks (R35) -/
  | setMaxCycleTicks (tag : Tag) (index : Byte) (value : BitVec 24)
  /-- SET_CONFIG of settle_timeout (R37) -/
  | setSettleTimeout (tag : Tag) (index : Byte) (value : BitVec 16)
  /-- SET_CONFIG of event_reports (R93) -/
  | setEventReports (tag : Tag) (index value : Byte)
  /-- SET_CONFIG of link_err_limit (R43) -/
  | setLinkErrLimit (tag : Tag) (index value : Byte)
  /-- SET_CONFIG of a class mask (R125) -/
  | setClassMask (tag : Tag) (index value : Byte)
  /-- SET_CONFIG of a class action (R125) -/
  | setClassAction (tag : Tag) (index value : Byte)
  /-- SET_CONFIG of hold_ms (R129) -/
  | setHoldMs (tag : Tag) (index : Byte) (value : BitVec 16)
  /-- SET_CONFIG of reject_ms (R131) -/
  | setRejectMs (tag : Tag) (index : Byte) (value : BitVec 16)
  /-- WRITE_SLOT_HEADER (R11) -/
  | writeSlotHeader (tag : Tag) (slot : Byte) (mould : MouldId)
  /-- WRITE_CHANNEL (R12) -/
  | writeChannel (tag : Tag) (slot channel : Byte) (fields : ChannelFields)
  /-- WRITE_ZONE (R13) -/
  | writeZone (tag : Tag) (slot zone : Byte) (fields : ZoneFields)
  /-- CLEAR_SLOT (R14) -/
  | clearSlot (tag : Tag) (slot : Byte)
  /-- ACK_ZONE (R15) -/
  | ackZone (tag : Tag) (slot zone : Byte)
  /-- READ_SLOT (R16) -/
  | readSlot (tag : Tag) (slot : Byte)
  /-- READ_ZONES (R162) -/
  | readZones (tag : Tag) (slot first last : Byte)
  /-- START (R163) -/
  | start (tag : Tag)
  /-- STOP (R163) -/
  | stop (tag : Tag)
  /-- RELEASE_HOLD with the all flag 1 (R130); its identifier byte is neither checked nor used (R171). -/
  | releaseHoldAll (tag : Tag) (identifier : Byte)
  /-- RELEASE_HOLD with any all flag but 1 (R130). -/
  | releaseHoldOne (tag : Tag) (flag identifier : Byte)
  /-- INJECT_HIT (R175, R176) -/
  | injectHit (tag : Tag) (channel offset duration : Byte) (peak : BitVec 16) (area : BitVec 24)
  /-- FORCE_FAULT (R177) -/
  | forceFault (tag : Tag) (mask : Byte)
  /-- RESTART (R164) -/
  | restart (tag : Tag)
  /-- TICK (R18): a rising edge of TICK. -/
  | tick
  deriving DecidableEq, Repr

end Sys2Proof
end

