-- ==== Sys2Proof/Config.lean ====
section
/-! DEFINITION. What the SD-208's manual fixes for every part: capacities, ranges and power-on defaults.
The manual leaves no value of this part to the implementation and no result undefined, so there is no free value here
(notes/assumptions/1.md). -/

namespace Sys2Proof.Config

/-- Ticks in one millisecond (R18). -/
def ticksPerMs : Nat := 50
/-- Ticks of stillness after which the stroke history is emptied (R22). -/
def stillnessTicks : Nat := 65536
/-- Ticks after which the closed horizon becomes absent (R29). -/
def horizonTicks : Nat := 65536
/-- Reach of a 16-bit stamp's extension (R52). -/
def stampReach : Nat := 65536
/-- Entries of the stroke history (R22). -/
def strokeEntries : Nat := 8
/-- Entries of a cycle's phase log (R30). -/
def phaseEntries : Nat := 8
/-- Samples in one sample frame (R46). -/
def frameSamples : Nat := 16
/-- Samples in one floor block (R57). -/
def floorBlock : Nat := 256
/-- Longest hit, in samples (R70). -/
def longDuration : Nat := 255
/-- Largest sample, margin or threshold (R5, R64). -/
def sampleMax : Nat := 4095
/-- Records of the pending hit list (R80). -/
def pendingCapacity : Nat := 32
/-- Frames of the sample lane (R143). -/
def sampleLaneCapacity : Nat := 64
/-- Entries of the control lane (R144). -/
def controlLaneCapacity : Nat := 16
/-- Free entries that an EVENT or a relayed HEAD frame needs (R144). -/
def eventReserve : Nat := 5
/-- Requests that may wait (R156). -/
def requestCapacity : Nat := 4
/-- Head-bound frames that may wait (R155). -/
def headBoundCapacity : Nat := 4
/-- Largest payload of a frame, in bytes (R168). -/
def payloadMax : Nat := 250
/-- Bytes at which a frame without an end delimiter becomes a framing error (R42). -/
def overlongBytes : Nat := 256
/-- Largest value of a 16-bit counter (R166). -/
def max16 : Nat := 65535
/-- Largest value of a 32-bit counter (R166). -/
def max32 : Nat := 4294967295
/-- Largest area sum of a tally (R92). -/
def areaSumMax : Nat := 16777215
/-- Largest tally or ungated count (R92), and largest zone alert count (R126). -/
def max8 : Nat := 255

end Sys2Proof.Config
end

