-- ==== Sys2Proof/Machine/Ticks.lean ====
section
/-! DEFINITION. Tick arithmetic (section 0.6, R18), the stamp extension (R20) and saturating counts (R166). -/

namespace Sys2Proof.Machine

/-- The ticks by which a lies after b: their difference modulo 2^32, read as signed (R18). -/
def ticksSince (a b : Tick) : Int := (a - b).toInt

/-- Tick a is at or before tick b (section 0.6). -/
def atOrBefore (a b : Tick) : Bool := 0 ≤ ticksSince b a

/-- Tick a is before tick b. -/
def isBefore (a b : Tick) : Bool := 0 < ticksSince b a

/-- The tick n ticks after t, modulo 2^32 (R18). -/
def tickAdd (t : Tick) (n : Nat) : Tick := t + BitVec.ofNat 32 n

/-- The tick n ticks before t, modulo 2^32. -/
def tickSub (t : Tick) (n : Nat) : Tick := t - BitVec.ofNat 32 n

/-- The low 16 bits of a tick (R20). -/
def lowStamp (t : Tick) : Stamp := t.setWidth 16

/-- The extended stamp: the latest tick not after the current tick whose low 16 bits equal the stamp (R20). -/
def extendStamp (now : Tick) (stamp : Stamp) : Tick := now - (lowStamp now - stamp).setWidth 32

/-- The expiry tick of a timer of m milliseconds started at t (R18). -/
def expiryAfterMs (t : Tick) (m : Nat) : Tick := tickAdd t (Config.ticksPerMs * m)

/-- A count plus n, held at its largest value (section 0.6, R166). -/
def satAdd (top a n : Nat) : Nat := min top (a + n)

/-- A 16-bit counter's increment (R166). -/
def inc16 (a : Nat) : Nat := satAdd Config.max16 a 1

/-- A 32-bit counter's increment (R166). -/
def inc32 (a : Nat) : Nat := satAdd Config.max32 a 1

end Sys2Proof.Machine
end

