-- ==== Sys2Proof/Machine/Operands.lean ====
section
/-! DEFINITION. What payload bytes stand for: multi-byte fields, the sample payload (R46, R169), the markers (R170) and the
CRC of the frame envelope (R43, R168). -/

namespace Sys2Proof.Machine

/-! ### Multi-byte fields, high byte first (R168) -/

/-- Two bytes as a 16-bit field. -/
def be16 (a b : Byte) : BitVec 16 := a ++ b

/-- Three bytes as a 24-bit field. -/
def be24 (a b c : Byte) : BitVec 24 := a ++ b ++ c

/-- Four bytes as a 32-bit field. -/
def be32 (a b c d : Byte) : BitVec 32 := a ++ b ++ c ++ d

/-- A 16-bit field as bytes. -/
def bytes16 (w : BitVec 16) : List Byte := [w.extractLsb' 8 8, w.extractLsb' 0 8]

/-- A 24-bit field as bytes. -/
def bytes24 (w : BitVec 24) : List Byte := [w.extractLsb' 16 8, w.extractLsb' 8 8, w.extractLsb' 0 8]

/-- A 32-bit field as bytes. -/
def bytes32 (w : BitVec 32) : List Byte :=
  [w.extractLsb' 24 8, w.extractLsb' 16 8, w.extractLsb' 8 8, w.extractLsb' 0 8]

/-- A number as a one-byte field. -/
def nat8 (n : Nat) : List Byte := [BitVec.ofNat 8 n]

/-- A number as a two-byte field. -/
def nat16 (n : Nat) : List Byte := bytes16 (BitVec.ofNat 16 n)

/-- A number as a three-byte field. -/
def nat24 (n : Nat) : List Byte := bytes24 (BitVec.ofNat 24 n)

/-- A number as a four-byte field. -/
def nat32 (n : Nat) : List Byte := bytes32 (BitVec.ofNat 32 n)

/-- A signed number as a one-byte field in two's complement (R168). -/
def int8 (n : Int) : List Byte := [BitVec.ofInt 8 n]

/-! ### The sample payload (R46, R169) -/

/-- The samples an item of 16 bits stands for: a literal item with its upper value bits clear is one sample, a run item r + 1
samples; a literal item with an upper value bit set is in error (R46). -/
def itemSamples (w : BitVec 16) : Option (List Nat) :=
  if w.getLsbD 15 then some (List.replicate ((w.extractLsb' 12 3).toNat + 1) (w.extractLsb' 0 12).toNat)
  else if w.extractLsb' 12 3 = 0 then some [(w.extractLsb' 0 12).toNat]
  else none

/-- The expansion of the items in order; none when an item is in error or a byte is left over (R46). -/
def expandItems : List Byte → Option (List Nat)
  | [] => some []
  | [_] => none
  | a :: b :: rest =>
    match itemSamples (be16 a b), expandItems rest with
    | some xs, some ys => some (xs ++ ys)
    | _, _ => none

/-- The stamp and the sixteen samples of a sample payload; none on a format error (R46). -/
def decodeSamples (payload : List Byte) : Option (Stamp × List Nat) :=
  if 34 < payload.length then none
  else
    match payload with
    | a :: b :: items =>
      match expandItems items with
      | some xs => if xs.length = Config.frameSamples then some (be16 a b, xs) else none
      | none => none
    | _ => none

/-! ### Markers (R27, R170) -/

/-- A well-formed marker. -/
inductive Marker where
  | cycleStart (mould : MouldId) (number : CycleNumber)
  | phase (p : MarkerPhase)
  | cycleEnd
  deriving DecidableEq, Repr

/-- The phase of a PHASE marker's byte, 1-5 (R170). -/
def markerPhase (b : Byte) : Option MarkerPhase :=
  match b.toNat with
  | 1 => some .fill
  | 2 => some .previb
  | 3 => some .mainvib
  | 4 => some .strip
  | 5 => some .ret
  | _ => none

/-- The byte of a PHASE marker's phase (R170). -/
def markerPhaseByte : MarkerPhase → Byte
  | .fill => 1
  | .previb => 2
  | .mainvib => 3
  | .strip => 4
  | .ret => 5

/-- The marker a MARKER payload carries; none when it is not well formed (R27, R170). -/
def parseMarker : List Byte → Option Marker
  | [c, m1, m0, n3, n2, n1, n0] => if c = 1 then some (.cycleStart (be16 m1 m0) (be32 n3 n2 n1 n0)) else none
  | [c, p] => if c = 2 then (markerPhase p).map .phase else none
  | [c] => if c = 3 then some .cycleEnd else none
  | _ => none

/-- The payload of a marker (R170). -/
def encodeMarker : Marker → List Byte
  | .cycleStart m n => [1] ++ bytes16 m ++ bytes32 n
  | .phase p => [2, markerPhaseByte p]
  | .cycleEnd => [3]

/-! ### The frame envelope (R42, R43, R168) -/

/-- One bit of the CRC's register, polynomial 0x1021 (R43). -/
def crcBit (r : BitVec 16) : BitVec 16 := if r.getLsbD 15 then (r <<< 1) ^^^ 0x1021 else r <<< 1

/-- One byte of the CRC's register. -/
def crcByte (r : BitVec 16) (b : Byte) : BitVec 16 :=
  crcBit (crcBit (crcBit (crcBit (crcBit (crcBit (crcBit (crcBit (r ^^^ (b.setWidth 16 <<< 8)))))))))

/-- The CRC-16 of some bytes: polynomial 0x1021, initial value 0xFFFF, no reflection, no final exclusive-or (R43, R168). -/
def crc16 (bytes : List Byte) : BitVec 16 := bytes.foldl crcByte 0xFFFF

/-- The bytes of a frame between its delimiters (R168). -/
def envelope (address kind : Byte) (payload : List Byte) : List Byte :=
  let covered := [address, kind, BitVec.ofNat 8 payload.length] ++ payload
  covered ++ bytes16 (crc16 covered)

/-- A sound frame: its address, kind and payload. -/
structure SoundFrame where
  address : Byte
  kind : Byte
  payload : List Byte
  deriving DecidableEq, Repr

/-- The frame that received bytes make, or none on a framing error or a CRC error (R42, R43, R152). (DESIGN CHOICE of whole
arrivals: notes/assumptions/8.md.) -/
def parseFrame (bytes : List Byte) (ended : FrameEnd) : Option SoundFrame :=
  match bytes with
  | a :: k :: l :: rest =>
    let payload := rest.take l.toNat
    let covered := [a, k, l] ++ payload
    if ended = .endDelimiter ∧ l.toNat ≤ Config.payloadMax ∧ rest.length = l.toNat + 2 ∧
        rest.drop l.toNat = bytes16 (crc16 covered)
    then some ⟨a, k, payload⟩
    else none
  | _ => none

/-- Kind bytes (R168). -/
def kindSample : Byte := 0x01
def kindMarker : Byte := 0x02
def kindRequest : Byte := 0x03
def kindResponse : Byte := 0x04
def kindEvent : Byte := 0x05
def kindCycle : Byte := 0x06
def kindAlert : Byte := 0x07
def kindHead : Byte := 0x08

/-- The part's own address (R168). -/
def addressPart : Byte := 0x20
/-- The line controller's address (R168). -/
def addressLine : Byte := 0x30

end Sys2Proof.Machine
end

