-- ==== Sys2Proof/Machine/State.lean ====
section
/-! DEFINITION. The state of the SD-208 as plain data, block by block, the frames it holds and sends, and the state after
power-on reset. Numbers that the manual adds and compares are Nat; ticks, identifiers and bit sets are bit vectors. -/

namespace Sys2Proof.Machine

/-! ### Mould table (chapter 1) -/

/-- An action code (R8). -/
inductive ActionCode where
  | none
  | alert
  | reject
  | holdAtEnd
  | holdNow
  deriving DecidableEq, Repr

/-- An action entry of a zone (R8): a code with a repeat flag. -/
structure ActionEntry where
  code : ActionCode
  repeats : Bool
  deriving DecidableEq, Repr

/-- A channel parameter record (R5). -/
structure ChanRecord where
  marginVib : Nat
  marginStrip : Nat
  marginOther : Nat
  hysteresis : Nat
  deadTime : Nat
  deriving DecidableEq, Repr

/-- How a zone is located (R6). ch_y, dmin and dmax are absent for SINGLE. -/
inductive ZoneKind where
  | pair (chX chY : Chan) (dmin dmax : Int)
  | single (chX : Chan)
  deriving DecidableEq, Repr

/-- The definition of a DEFINED zone (R6). -/
structure ZoneDef where
  kind : ZoneKind
  /-- bit k holds phase k of R173's numbering: NONE, FILL, PREVIB, MAINVIB, STRIP, RETURN -/
  phaseMask : BitVec 6
  gateLo : Nat
  gateHi : Nat
  requirePhase : Bool
  minArea : Nat
  countLimit : Nat
  areaShift : Nat
  leakShift : Nat
  watchLevel : Nat
  watchHyst : Nat
  tripLevel : Nat
  tripCycles : Nat
  watchAction : ActionEntry
  crackAction : ActionEntry
  deriving DecidableEq, Repr

/-- The state of a zone (R9). -/
inductive ZoneState where
  | clear
  | watch
  | crack
  deriving DecidableEq, Repr

/-- The runtime part of a DEFINED zone (R9). -/
structure Runtime where
  state : ZoneState
  evidence : Nat
  count : Nat
  crackCycle : Option CycleNumber
  lastCycle : Option CycleNumber
  deriving DecidableEq, Repr

/-- A DEFINED zone record: its definition and its runtime (R6, R9). -/
structure Zone where
  defn : ZoneDef
  rt : Runtime
  deriving DecidableEq, Repr

/-- What a DEFINED slot holds (R1). An UNDEFINED zone is none. -/
structure Profile where
  mouldId : MouldId
  cycleCount : Nat
  records : Vector ChanRecord 8
  zones : Vector (Option Zone) 16
  deriving DecidableEq, Repr

/-- A mould slot (R1, R4): EMPTY when it holds no profile. -/
structure Slot where
  profile : Option Profile
  inUse : Bool
  deriving DecidableEq, Repr

/-! ### Stroke timer and cycle controller (chapter 2) -/

/-- An entry of the stroke history (R22): VALID with its period, or INVALID. -/
structure StrokeEntry where
  tick : Tick
  period : Option Nat
  deriving DecidableEq, Repr

/-- The run state (R26). -/
inductive RunState where
  | stopped
  | running
  deriving DecidableEq, Repr

/-- The phase of a tick (R28). -/
inductive Phase where
  | none
  | fill
  | previb
  | mainvib
  | strip
  | ret
  deriving DecidableEq, Repr

/-- The margins' phase classes (R28). -/
inductive PhaseClass where
  | vib
  | strip
  | other
  deriving DecidableEq, Repr

/-- An entry of the phase log (R30). -/
structure PhaseEntry where
  phase : Phase
  tick : Tick
  deriving DecidableEq, Repr

/-- The flags of a cycle record (R30). -/
structure CycleFlags where
  forced : Bool
  timeout : Bool
  unknownMould : Bool
  abandoned : Bool
  markerLoss : Bool
  reject : Bool
  reportLost : Bool
  deriving DecidableEq, Repr

/-- The tally of one zone position (R92). -/
structure Tally where
  count : Nat
  ungated : Nat
  areaSum : Nat
  deriving DecidableEq, Repr

/-- The five counts of a cycle (R94). -/
structure CycleCounts where
  hitsClosed : Nat
  pairEvents : Nat
  singleEvents : Nat
  unlocated : Nat
  noise : Nat
  deriving DecidableEq, Repr

/-- The cycle record (R30) with the assembler's tallies and counts for it (R92, R94). The cycle is CLOSING when the closing
entry tick is present and OPEN when it is absent. -/
structure Cycle where
  number : CycleNumber
  mould : MouldId
  slot : Option SlotIx
  startTick : Tick
  endTick : Option Tick
  closingEntry : Option Tick
  log : List PhaseEntry
  flags : CycleFlags
  /-- members of the blind set, each once -/
  blind : List ZoneIx
  tallies : Vector Tally 16
  counts : CycleCounts
  deriving DecidableEq, Repr

/-- The cycle state (R30). -/
inductive CycleState where
  | idle
  | opened
  | closing
  deriving DecidableEq, Repr

/-- The class of a sample tick (R29). -/
inductive SampleClass where
  | inWindow
  | late
  | outside
  deriving DecidableEq, Repr

/-! ### Hits (chapters 4 and 5) -/

/-- A hit record (R75). -/
structure Hit where
  chan : Chan
  cycle : CycleNumber
  start : Tick
  duration : Nat
  peak : Nat
  rise : Nat
  area : Nat
  phase : Phase
  angle : Option Nat
  truncated : Bool
  long : Bool
  injected : Bool
  deriving DecidableEq, Repr

/-- The open hit of a detector (R66). -/
structure OpenHit where
  cycle : CycleNumber
  start : Tick
  phase : Phase
  duration : Nat
  peak : Nat
  peakTick : Tick
  area : Nat
  floor : Nat
  thrOn : Nat
  thrOff : Nat
  deriving DecidableEq, Repr

/-- The detector state (R61). -/
inductive DetState where
  | blocked
  | armed
  | inHit
  | dead
  deriving DecidableEq, Repr

/-- The dead-time end tick (R69) with the tick of the close that set it, which R62 compares with. -/
structure DeadTime where
  closed : Tick
  endTick : Tick
  deriving DecidableEq, Repr

/-! ### Channels: intake, detector and forwarding stage of each (chapters 3, 4 and 8) -/

/-- The intake state of a channel (R47-R50). -/
inductive IntakeState where
  | off
  | waiting
  | live
  | lost
  deriving DecidableEq, Repr

/-- The forwarding policy (R138). -/
inductive Policy where
  | drop
  | all
  | aroundHits
  deriving DecidableEq, Repr

/-- A frame of a pre-trigger queue (R140): its payload as it arrived and its gap-before mark. -/
structure QueuedSample where
  payload : List Byte
  gapBefore : Bool
  deriving DecidableEq, Repr

/-- The per-channel counters of the counter set (chapter 9, section 9.6). -/
structure ChanCounters where
  framesAccepted : Nat
  formatErrors : Nat
  stale : Nat
  missing : Nat
  hitsClosed : Nat
  hitsTruncated : Nat
  forwardedDrops : Nat
  deriving DecidableEq, Repr

/-- Everything the part keeps for one channel. -/
structure Channel where
  /-- intake state (R47-R50) -/
  intake : IntakeState
  /-- expected tick, present in LIVE (R52) -/
  expected : Option Tick
  /-- last accepted extended stamp (R52) -/
  lastStamp : Option Tick
  /-- loss timer: the arrival tick of the last accepted frame, present while it runs (R49) -/
  lossFrom : Option Tick
  floor : Nat
  floorSum : Nat
  floorCount : Nat
  /-- detector state (R61) -/
  det : DetState
  /-- the open hit, present while IN_HIT (R66) -/
  openHit : Option OpenHit
  /-- the dead-time end tick (R69) -/
  deadTime : Option DeadTime
  /-- the settled tick (R77) -/
  sigma : Option Tick
  /-- floor_track (R58) -/
  floorTrack : Bool
  /-- forwarding policy, pre and post (R149) -/
  policy : Policy
  pre : Nat
  post : Nat
  /-- pre-trigger queue, oldest first (R140) -/
  preQueue : List QueuedSample
  postRemaining : Nat
  gapOwed : Bool
  dropOwed : Bool
  cnt : ChanCounters
  deriving DecidableEq, Repr

/-! ### Faults, actions and press outputs (chapter 7) -/

/-- A fault class (R121). -/
structure FaultClass where
  cond : Bool
  forced : Bool
  sticky : Bool
  masked : Bool
  action : ActionCode
  deriving DecidableEq, Repr

/-- The last zone alerted (R126). -/
structure ZoneAlert where
  slot : SlotIx
  zone : ZoneIx
  state : ZoneState
  deriving DecidableEq, Repr

/-- What an ALERT frame gathers (R134): changed bits, zone alert count and last zone alerted. -/
structure AlertNews where
  changed : BitVec 8
  zoneAlerts : Nat
  lastZone : Option ZoneAlert
  deriving DecidableEq, Repr

/-- The alert state (R134). -/
inductive AlertState where
  | idle
  | pending
  | sending
  deriving DecidableEq, Repr

/-! ### Requests (chapter 9) -/

/-- A SET_CONFIG: the item, its index byte and its value in the item's width (R161, R171). -/
inductive ConfigWrite where
  | channelEnable (index value : Byte)
  | floorTrack (index value : Byte)
  | forwardingPolicy (index value : Byte)
  | pre (index value : Byte)
  | post (index value : Byte)
  | lossTimeout (index : Byte) (value : BitVec 16)
  | strokeMin (index : Byte) (value : BitVec 16)
  | strokeMax (index : Byte) (value : BitVec 16)
  | pairSpan (index value : Byte)
  | maxCycleTicks (index : Byte) (value : BitVec 24)
  | settleTimeout (index : Byte) (value : BitVec 16)
  | eventReports (index value : Byte)
  | linkErrLimit (index value : Byte)
  | classMask (index value : Byte)
  | classAction (index value : Byte)
  | holdMs (index : Byte) (value : BitVec 16)
  | rejectMs (index : Byte) (value : BitVec 16)
  deriving DecidableEq, Repr

/-- What a REQUEST frame asks for (R158, R171). -/
inductive Request where
  /-- a payload that fails the form check, with the code its RESPONSE carries -/
  | malformed (code : Byte)
  | readStatus
  | readCounters (flag : Byte)
  | setConfig (w : ConfigWrite)
  | getConfig (item : ConfigItem) (index : Byte)
  | writeSlotHeader (slot : Byte) (mould : MouldId)
  | writeChannel (slot channel : Byte) (fields : ChannelFields)
  | writeZone (slot zone : Byte) (fields : ZoneFields)
  | clearSlot (slot : Byte)
  | ackZone (slot zone : Byte)
  | readSlot (slot : Byte)
  | readZones (slot first last : Byte)
  | start
  | stop
  | releaseHold (flag identifier : Byte)
  | injectHit (channel offset duration : Byte) (peak : BitVec 16) (area : BitVec 24)
  | forceFault (mask : Byte)
  | restart
  deriving DecidableEq, Repr

/-- A REQUEST frame of the request queue: its tag and what it asks for. -/
structure TaggedRequest where
  tag : Tag
  req : Request
  deriving DecidableEq, Repr

/-- A response status, values 0-7 (R171). -/
inductive Status where
  | ok
  | badRequest
  | badValue
  | noSlot
  | inUse
  | zoneLatched
  | duplicateId
  | notOpen
  deriving DecidableEq, Repr

/-! ### Frames that leave the part (chapters 8 and 10) -/

/-- A RESPONSE frame (R171). -/
structure Response where
  tag : Tag
  code : Byte
  status : Status
  body : List Byte
  deriving DecidableEq, Repr

/-- The partner channel and the delta of a PAIR event (R90). -/
structure Mate where
  chan : Chan
  delta : Int
  deriving DecidableEq, Repr

/-- An event record (R90) with whether the event scored (R93). A SINGLE event has no mate. -/
structure EventRec where
  zone : ZoneIx
  cycle : CycleNumber
  primary : Chan
  start : Tick
  mate : Option Mate
  peak : Nat
  area : Nat
  angle : Option Nat
  phase : Phase
  duration : Nat
  rise : Nat
  injected : Bool
  scored : Bool
  deriving DecidableEq, Repr

/-- A zone entry of a CYCLE report (R116). -/
structure ZoneEntry where
  zone : ZoneIx
  tally : Tally
  evidence : Nat
  state : ZoneState
  count : Nat
  blind : Bool
  deriving DecidableEq, Repr

/-- A CYCLE report (R115). -/
structure Report where
  number : CycleNumber
  mould : MouldId
  slot : Option SlotIx
  flags : CycleFlags
  counts : CycleCounts
  zones : List ZoneEntry
  deriving DecidableEq, Repr

/-- The contents of an ALERT frame (R134). -/
structure AlertContents where
  live : BitVec 8
  sticky : BitVec 8
  changed : BitVec 8
  holdAsserted : Bool
  holdSize : Nat
  zoneAlerts : Nat
  lastZone : Option ZoneAlert
  deriving DecidableEq, Repr

/-- A frame of the control lane (R144). -/
inductive ControlFrame where
  | event (e : EventRec)
  | head (payload : List Byte)
  | cycle (r : Report)
  | response (r : Response)
  deriving DecidableEq, Repr

/-- A forwarded sample frame with its trailer flags (R142). -/
structure SampleOut where
  chan : Chan
  payload : List Byte
  hitStart : Bool
  inHit : Bool
  gapBefore : Bool
  dropBefore : Bool
  deriving DecidableEq, Repr

/-- A frame on the line link (R146). -/
inductive LineFrame where
  | alert (a : AlertContents)
  | control (f : ControlFrame)
  | sample (f : SampleOut)
  deriving DecidableEq, Repr

/-- A head-bound frame (R155), addressed to 0x10 plus the head's number. -/
structure HeadFrame where
  head : Fin 4
  payload : List Byte
  deriving DecidableEq, Repr

/-! ### Part-wide configuration and counters (chapter 9) -/

/-- The part-wide items of the configuration store (section 9.5). The per-channel items stand in Channel, the per-class items
in FaultClass. -/
structure PartConfig where
  channelEnable : BitVec 8
  lossTimeout : Nat
  strokeMin : Nat
  strokeMax : Nat
  pairSpan : Nat
  maxCycleTicks : Nat
  settleTimeout : Nat
  eventReports : Bool
  linkErrLimit : Nat
  holdMs : Nat
  rejectMs : Nat
  deriving DecidableEq, Repr

/-- The part's counters of the counter set (section 9.6). -/
structure PartCounters where
  headLinkCrc : Nat
  lineLinkCrc : Nat
  misaddressed : Nat
  eventDrops : Nat
  headRelayDrops : Nat
  reportsLost : Nat
  requestsDropped : Nat
  markersOutOfOrder : Nat
  strokeBounces : Nat
  earlyResolutions : Nat
  deriving DecidableEq, Repr

/-! ### The whole state -/

/-- The state of the part, and the queue of commands that wait to be taken. -/
structure State where
  /-- commands that wait, first in, first out: the model's own queue, not the part's -/
  pending : List Instr
  /-- nRST is low (R18, R19) -/
  nrstLow : Bool
  /-- tick counter (R18) -/
  tick : Tick
  /-- stroke history, oldest first (R22) -/
  strokes : List StrokeEntry
  /-- last accepted stroke tick (R22) -/
  lastStroke : Option Tick
  /-- run state (R26) -/
  run : RunState
  /-- the cycle record, absent in IDLE (R30) -/
  cycle : Option Cycle
  /-- closed horizon (R29) -/
  horizon : Option Tick
  /-- mould table (R1) -/
  slots : Vector Slot 8
  /-- the eight channels -/
  chans : Vector Channel 8
  /-- pending hit list, in order (R80) -/
  hits : List Hit
  /-- fault classes (R121) -/
  classes : Vector FaultClass 8
  /-- hold reason set, ascending identifiers (R127) -/
  holdSet : List Nat
  /-- pending hold set, ascending identifiers (R127) -/
  pendingHold : List Nat
  /-- hold timer: its expiry tick while it runs (R129) -/
  holdExpiry : Option Tick
  /-- reject timer: its expiry tick while it runs (R132) -/
  rejectExpiry : Option Tick
  /-- alert state (R134) -/
  alert : AlertState
  /-- re-pend mark (R134) -/
  rePend : Bool
  /-- changed bits, zone alert count and last zone alerted since the last completed ALERT transmission (R134) -/
  news : AlertNews
  /-- the same since the start of the ALERT transmission in progress, which its completion leaves (R135; DESIGN CHOICE:
  notes/assumptions/22.md) -/
  newsSince : AlertNews
  /-- control lane, in order of entry (R144) -/
  controlLane : List ControlFrame
  /-- an entry is held for a response (R144) -/
  held : Bool
  /-- sample lane, in order of entry (R143) -/
  sampleLane : List SampleOut
  /-- report lost mark (R145) -/
  reportLost : Bool
  /-- pause state PAUSED (R148) -/
  paused : Bool
  /-- the line link transmitter's frame; absent when it is IDLE (R146) -/
  tx : Option LineFrame
  /-- the arbiter's choice waits for the end of a close or of an execution (R146): the model's own mark, false between
  commands (DESIGN CHOICE: notes/assumptions/4.md) -/
  deferred : Bool
  /-- request queue, oldest first (R156) -/
  requests : List TaggedRequest
  /-- head-bound queue, oldest first (R155) -/
  headBound : List HeadFrame
  /-- the head link transmitter's frame; absent when it is IDLE (R155) -/
  headTx : Option HeadFrame
  /-- part-wide configuration (section 9.5) -/
  cfg : PartConfig
  /-- part counters (section 9.6) -/
  cnt : PartCounters
  deriving DecidableEq, Repr

/-- The faults that stop the machine: none. The manual describes no event that stops the part, so nothing raises a fault and
the type is empty. -/
inductive Fault where
  deriving DecidableEq, Repr

/-- Why a command has no meaning. -/
inductive Refusal where
  /-- Raised by an arm of exec whose command has no meaning yet: safe, since the machine stops where the part goes on. No
  arm of this model raises it. -/
  | notModelled (mnemonic : String)
  deriving DecidableEq, Repr

/-! ### Reset values -/

/-- A channel parameter record at its defaults (R5). -/
def ChanRecord.defaults : ChanRecord where
  marginVib := 4095
  marginStrip := 4095
  marginOther := 4095
  hysteresis := 0
  deadTime := 0

/-- A runtime after a runtime reset (R9). -/
def Runtime.fresh : Runtime where
  state := .clear
  evidence := 0
  count := 0
  crackCycle := none
  lastCycle := none

/-- An EMPTY slot (R1, R17). -/
def Slot.empty : Slot where
  profile := none
  inUse := false

/-- No flag set (R31). -/
def CycleFlags.none : CycleFlags where
  forced := false
  timeout := false
  unknownMould := false
  abandoned := false
  markerLoss := false
  reject := false
  reportLost := false

/-- A tally at zero (R92). -/
def Tally.zero : Tally where
  count := 0
  ungated := 0
  areaSum := 0

/-- The counts of a cycle at zero (R94). -/
def CycleCounts.zero : CycleCounts where
  hitsClosed := 0
  pairEvents := 0
  singleEvents := 0
  unlocated := 0
  noise := 0

/-- The per-channel counters at zero (R166). -/
def ChanCounters.zero : ChanCounters where
  framesAccepted := 0
  formatErrors := 0
  stale := 0
  missing := 0
  hitsClosed := 0
  hitsTruncated := 0
  forwardedDrops := 0

/-- The part's counters at zero (R166). -/
def PartCounters.zero : PartCounters where
  headLinkCrc := 0
  lineLinkCrc := 0
  misaddressed := 0
  eventDrops := 0
  headRelayDrops := 0
  reportsLost := 0
  requestsDropped := 0
  markersOutOfOrder := 0
  strokeBounces := 0
  earlyResolutions := 0

/-- A channel after power-on reset (R60, R79, R149, R151). -/
def Channel.reset : Channel where
  intake := .off
  expected := none
  lastStamp := none
  lossFrom := none
  floor := 0
  floorSum := 0
  floorCount := 0
  det := .blocked
  openHit := none
  deadTime := none
  sigma := none
  floorTrack := false
  policy := .drop
  pre := 2
  post := 4
  preQueue := []
  postRemaining := 0
  gapOwed := false
  dropOwed := false
  cnt := .zero

/-- The defaults of the part-wide configuration items (section 9.5). -/
def PartConfig.defaults : PartConfig where
  channelEnable := 0
  lossTimeout := 2500
  strokeMin := 400
  strokeMax := 2000
  pairSpan := 20
  maxCycleTicks := 1500000
  settleTimeout := 50000
  eventReports := false
  linkErrLimit := 16
  holdMs := 0
  rejectMs := 100

/-- A fault class after power-on reset, with its default mask (R121, R137). -/
def FaultClass.reset (masked : Bool) : FaultClass where
  cond := false
  forced := false
  sticky := false
  masked := masked
  action := .none

/-- The eight classes after power-on reset: classes 0, 1 and 3 unmasked, RESET sticky (R121, R137). -/
def State.resetClasses : Vector FaultClass 8 :=
  #v[.reset false, .reset false, .reset true, .reset false, .reset true, .reset true, .reset true,
    { FaultClass.reset true with sticky := true }]

/-- The alert's news right after a reset: RESET changed (R137). -/
def AlertNews.afterReset : AlertNews where
  changed := 0x80
  zoneAlerts := 0
  lastZone := none

/-- No news (R135). -/
def AlertNews.none : AlertNews where
  changed := 0
  zoneAlerts := 0
  lastZone := .none

/-- The machine right after power-on reset: R17, R41, R60, R79, R98, R137, R151, R165, R166, R167. nRST is high. -/
def State.reset : State where
  pending := []
  nrstLow := false
  tick := 0
  strokes := []
  lastStroke := none
  run := .stopped
  cycle := none
  horizon := none
  slots := Vector.replicate 8 Slot.empty
  chans := Vector.replicate 8 Channel.reset
  hits := []
  classes := State.resetClasses
  holdSet := []
  pendingHold := []
  holdExpiry := none
  rejectExpiry := none
  alert := .idle
  rePend := false
  news := .afterReset
  newsSince := .none
  controlLane := []
  held := false
  sampleLane := []
  reportLost := false
  paused := false
  tx := none
  deferred := false
  requests := []
  headBound := []
  headTx := none
  cfg := .defaults
  cnt := .zero

end Sys2Proof.Machine
end

