-- ==== Sys2Proof/Machine/RequestFormat.lean ====
section
/-! DEFINITION. The request layouts (R158, R171, R172): the form check with the request a payload carries, and the payload of
a request. -/

namespace Sys2Proof.Machine

/-- A configuration item's number, 1-17 (R171). -/
def ConfigItem.number : ConfigItem → Nat
  | .channelEnable => 1
  | .floorTrack => 2
  | .forwardingPolicy => 3
  | .pre => 4
  | .post => 5
  | .lossTimeout => 6
  | .strokeMin => 7
  | .strokeMax => 8
  | .pairSpan => 9
  | .maxCycleTicks => 10
  | .settleTimeout => 11
  | .eventReports => 12
  | .linkErrLimit => 13
  | .classMask => 14
  | .classAction => 15
  | .holdMs => 16
  | .rejectMs => 17

/-- The configuration item a byte names; 0 and 18-255 name none (R171). -/
def itemOfByte (b : Byte) : Option ConfigItem :=
  match b.toNat with
  | 1 => some .channelEnable
  | 2 => some .floorTrack
  | 3 => some .forwardingPolicy
  | 4 => some .pre
  | 5 => some .post
  | 6 => some .lossTimeout
  | 7 => some .strokeMin
  | 8 => some .strokeMax
  | 9 => some .pairSpan
  | 10 => some .maxCycleTicks
  | 11 => some .settleTimeout
  | 12 => some .eventReports
  | 13 => some .linkErrLimit
  | 14 => some .classMask
  | 15 => some .classAction
  | 16 => some .holdMs
  | 17 => some .rejectMs
  | _ => none

/-- The SET_CONFIG of an item, an index and value bytes; none when the value has not the item's width (R161, R171). -/
def writeOfBytes (item : ConfigItem) (i : Byte) (value : List Byte) : Option ConfigWrite :=
  match item, value with
  | .channelEnable, [v] => some (.channelEnable i v)
  | .floorTrack, [v] => some (.floorTrack i v)
  | .forwardingPolicy, [v] => some (.forwardingPolicy i v)
  | .pre, [v] => some (.pre i v)
  | .post, [v] => some (.post i v)
  | .lossTimeout, [a, b] => some (.lossTimeout i (be16 a b))
  | .strokeMin, [a, b] => some (.strokeMin i (be16 a b))
  | .strokeMax, [a, b] => some (.strokeMax i (be16 a b))
  | .pairSpan, [v] => some (.pairSpan i v)
  | .maxCycleTicks, [a, b, c] => some (.maxCycleTicks i (be24 a b c))
  | .settleTimeout, [a, b] => some (.settleTimeout i (be16 a b))
  | .eventReports, [v] => some (.eventReports i v)
  | .linkErrLimit, [v] => some (.linkErrLimit i v)
  | .classMask, [v] => some (.classMask i v)
  | .classAction, [v] => some (.classAction i v)
  | .holdMs, [a, b] => some (.holdMs i (be16 a b))
  | .rejectMs, [a, b] => some (.rejectMs i (be16 a b))
  | _, _ => none

/-- The parameters of a SET_CONFIG: item, index and value (R171). -/
def bytesOfWrite : ConfigWrite → List Byte
  | .channelEnable i v => [1, i, v]
  | .floorTrack i v => [2, i, v]
  | .forwardingPolicy i v => [3, i, v]
  | .pre i v => [4, i, v]
  | .post i v => [5, i, v]
  | .lossTimeout i v => [6, i] ++ bytes16 v
  | .strokeMin i v => [7, i] ++ bytes16 v
  | .strokeMax i v => [8, i] ++ bytes16 v
  | .pairSpan i v => [9, i, v]
  | .maxCycleTicks i v => [10, i] ++ bytes24 v
  | .settleTimeout i v => [11, i] ++ bytes16 v
  | .eventReports i v => [12, i, v]
  | .linkErrLimit i v => [13, i, v]
  | .classMask i v => [14, i, v]
  | .classAction i v => [15, i, v]
  | .holdMs i v => [16, i] ++ bytes16 v
  | .rejectMs i v => [17, i] ++ bytes16 v

/-- The fields of a channel record's nine bytes (R172). -/
def channelFieldsOf : List Byte → Option ChannelFields
  | [a, b, c, d, e, f, g, h, t] => some ⟨be16 a b, be16 c d, be16 e f, be16 g h, t⟩
  | _ => none

/-- The nine bytes of a channel record's fields (R172). -/
def ChannelFields.bytes (f : ChannelFields) : List Byte :=
  bytes16 f.marginVib ++ bytes16 f.marginStrip ++ bytes16 f.marginOther ++ bytes16 f.hysteresis ++ [f.deadTime]

/-- The fields of a zone definition's nineteen bytes (R172). -/
def zoneFieldsOf : List Byte → Option ZoneFields
  | [b0, b1, b2, b3, b4, b5, b6, b7, b8, b9, b10, b11, b12, b13, b14, b15, b16, b17, b18] =>
    some
      { kind := b0.extractLsb' 0 2
        tripCycles := b0.extractLsb' 2 4
        spare := b0.extractLsb' 6 1
        requirePhase := b0.extractLsb' 7 1
        chX := b1.extractLsb' 4 4
        chY := b1.extractLsb' 0 4
        dmin := b2
        dmax := b3
        phaseMask := b4
        gateLo := b5
        gateHi := b6
        minArea := be24 b7 b8 b9
        countLimit := b10
        areaShift := b11.extractLsb' 4 4
        leakShift := b11.extractLsb' 0 4
        watchLevel := be16 b12 b13
        watchHyst := be16 b14 b15
        tripLevel := be16 b16 b17
        watchCode := b18.extractLsb' 0 3
        watchRepeat := b18.extractLsb' 3 1
        crackCode := b18.extractLsb' 4 3
        crackRepeat := b18.extractLsb' 7 1 }
  | _ => none

/-- The nineteen bytes of a zone definition's fields (R172). -/
def ZoneFields.bytes (f : ZoneFields) : List Byte :=
  [f.requirePhase ++ f.spare ++ f.tripCycles ++ f.kind, f.chX ++ f.chY, f.dmin, f.dmax, f.phaseMask, f.gateLo, f.gateHi] ++
    bytes24 f.minArea ++ [f.countLimit, f.areaShift ++ f.leakShift] ++ bytes16 f.watchLevel ++ bytes16 f.watchHyst ++
    bytes16 f.tripLevel ++ [f.crackRepeat ++ f.crackCode ++ f.watchRepeat ++ f.watchCode]

/-- The request that a code and its parameters make; none when the code names no request or the length is not the one it
requires (R158, R171). -/
def parseParameters (code : Byte) (ps : List Byte) : Option Request :=
  match code.toNat, ps with
  | 1, [] => some .readStatus
  | 2, [flag] => some (.readCounters flag)
  | 3, item :: i :: value => (itemOfByte item).bind fun it => (writeOfBytes it i value).map .setConfig
  | 4, [item, i] => (itemOfByte item).map fun it => .getConfig it i
  | 5, [slot, a, b] => some (.writeSlotHeader slot (be16 a b))
  | 6, slot :: ch :: fs => (channelFieldsOf fs).map fun f => .writeChannel slot ch f
  | 7, slot :: z :: fs => (zoneFieldsOf fs).map fun f => .writeZone slot z f
  | 8, [slot] => some (.clearSlot slot)
  | 9, [slot, z] => some (.ackZone slot z)
  | 10, [slot] => some (.readSlot slot)
  | 11, [slot, first, last] => some (.readZones slot first last)
  | 12, [] => some .start
  | 13, [] => some .stop
  | 14, [flag, id] => some (.releaseHold flag id)
  | 15, [ch, off, dur, p1, p0, a2, a1, a0] => some (.injectHit ch off dur (be16 p1 p0) (be24 a2 a1 a0))
  | 16, [mask] => some (.forceFault mask)
  | 17, [] => some .restart
  | _, _ => none

/-- The code of a request (R171). -/
def Request.code : Request → Byte
  | .malformed c => c
  | .readStatus => 1
  | .readCounters _ => 2
  | .setConfig _ => 3
  | .getConfig _ _ => 4
  | .writeSlotHeader _ _ => 5
  | .writeChannel _ _ _ => 6
  | .writeZone _ _ _ => 7
  | .clearSlot _ => 8
  | .ackZone _ _ => 9
  | .readSlot _ => 10
  | .readZones _ _ _ => 11
  | .start => 12
  | .stop => 13
  | .releaseHold _ _ => 14
  | .injectHit _ _ _ _ _ => 15
  | .forceFault _ => 16
  | .restart => 17

/-- The parameters of a request from offset 2 (R171). A malformed request has none of its own. -/
def Request.parameters : Request → List Byte
  | .malformed _ => []
  | .readStatus => []
  | .readCounters flag => [flag]
  | .setConfig w => bytesOfWrite w
  | .getConfig item i => [BitVec.ofNat 8 (ConfigItem.number item), i]
  | .writeSlotHeader slot m => [slot] ++ bytes16 m
  | .writeChannel slot ch f => [slot, ch] ++ ChannelFields.bytes f
  | .writeZone slot z f => [slot, z] ++ ZoneFields.bytes f
  | .clearSlot slot => [slot]
  | .ackZone slot z => [slot, z]
  | .readSlot slot => [slot]
  | .readZones slot first last => [slot, first, last]
  | .start => []
  | .stop => []
  | .releaseHold flag id => [flag, id]
  | .injectHit ch off dur peak area => [ch, off, dur] ++ bytes16 peak ++ bytes24 area
  | .forceFault mask => [mask]
  | .restart => []

/-- The REQUEST payload of a request (R171). -/
def encodeRequest (r : TaggedRequest) : List Byte := [r.tag.setWidth 8, r.req.code] ++ r.req.parameters

/-- The form check (R158): the tag of the RESPONSE, and the request, which is malformed with the RESPONSE's code when the
payload is short, the tag byte's upper bits are set, the code names no request or the length is wrong. -/
def parseRequest (payload : List Byte) : TaggedRequest :=
  match payload with
  | [] => ⟨0, .malformed 0⟩
  | [t] => ⟨t.setWidth 4, .malformed 0⟩
  | t :: c :: ps =>
    ⟨t.setWidth 4,
      if t.extractLsb' 4 4 = 0 then (parseParameters c ps).getD (.malformed c) else .malformed c⟩

/-- A request fails the form check (R158). -/
def Request.isMalformed : Request → Bool
  | .malformed _ => true
  | _ => false

end Sys2Proof.Machine
end

