-- ==== Sys2Proof/Machine/Ops.lean ====
section
/-! DEFINITION. The named reads and updates of the state that every block uses. -/

namespace Sys2Proof.Machine

/-- The channels in ascending order. (DESIGN CHOICE of the order within a command: notes/assumptions/13.md.) -/
def allChans : List Chan := [0, 1, 2, 3, 4, 5, 6, 7]

/-- The zone positions in index order. -/
def allZones : List ZoneIx := [0, 1, 2, 3, 4, 5, 6, 7, 8, 9, 10, 11, 12, 13, 14, 15]

/-- The slots in ascending order. -/
def allSlots : List SlotIx := [0, 1, 2, 3, 4, 5, 6, 7]

/-- The fault classes in ascending order. -/
def allClasses : List ClassIx := [0, 1, 2, 3, 4, 5, 6, 7]

/-- Does f at each index of a list in turn. -/
def forEach {α : Type} (f : α → State → State) : List α → State → State
  | [], s => s
  | a :: as, s => forEach f as (f a s)

/-- Everything but the resets and nRST's release is without effect while nRST is low (R41, R42, R152, R167;
notes/assumptions/3.md). -/
def outOfReset (f : State → State) (s : State) : State := if s.nrstLow then s else f s

/-- A command's outcome: always a next state, the state unchanged while nRST is low. -/
def takes (f : State → State) (s : State) : Host.Outcome State Fault Refusal := .next (outOfReset f s)

/-! ### Channels -/

/-- The state of channel c. -/
def State.chan (s : State) (c : Chan) : Channel := s.chans[c]

/-- Changes the state of channel c alone. -/
def State.updChan (s : State) (c : Chan) (f : Channel → Channel) : State :=
  { s with chans := s.chans.set c (f s.chans[c]) }

/-- Channel c is LIVE. -/
def State.isLive (s : State) (c : Chan) : Bool := (s.chan c).intake == .live

/-- The tick of the last sample a LIVE channel has taken: the one before its expected tick (R52, R77). -/
def Channel.lastTaken (ch : Channel) : Option Tick := ch.expected.map (tickSub · 1)

/-! ### Slots -/

/-- Slot k. -/
def State.slot (s : State) (k : SlotIx) : Slot := s.slots[k]

/-- Changes slot k alone. -/
def State.updSlot (s : State) (k : SlotIx) (f : Slot → Slot) : State :=
  { s with slots := s.slots.set k (f s.slots[k]) }

/-- Sets or clears the in-use mark of a slot (R4). -/
def State.markSlot (s : State) (k : SlotIx) (used : Bool) : State := s.updSlot k fun sl => { sl with inUse := used }

/-- Changes the profile of a DEFINED slot; an EMPTY slot stays EMPTY. -/
def State.updProfile (s : State) (k : SlotIx) (f : Profile → Profile) : State :=
  s.updSlot k fun sl => { sl with profile := sl.profile.map f }

/-- The zone record at a position of a slot, if the slot and the zone are DEFINED. -/
def State.zone? (s : State) (k : SlotIx) (z : ZoneIx) : Option Zone :=
  match (s.slot k).profile with
  | some p => p.zones[z]
  | none => none

/-- Replaces the zone record at a position of a DEFINED slot. -/
def State.setZone (s : State) (k : SlotIx) (z : ZoneIx) (r : Option Zone) : State :=
  s.updProfile k fun p => { p with zones := p.zones.set z r }

/-- A channel parameter record of a DEFINED slot. -/
def State.record? (s : State) (k : SlotIx) (c : Chan) : Option ChanRecord :=
  (s.slot k).profile.map fun p => p.records[c]

/-! ### The open cycle -/

/-- Changes the record of the open cycle; nothing in IDLE. -/
def State.updCycle (s : State) (f : Cycle → Cycle) : State := { s with cycle := s.cycle.map f }

/-- Changes the flags of the open cycle's record. -/
def State.updFlags (s : State) (f : CycleFlags → CycleFlags) : State :=
  s.updCycle fun cy => { cy with flags := f cy.flags }

/-- Changes the counts of the open cycle (R94). -/
def State.updCounts (s : State) (f : CycleCounts → CycleCounts) : State :=
  s.updCycle fun cy => { cy with counts := f cy.counts }

/-- The cycle state (R30). -/
def State.cycleState (s : State) : CycleState :=
  match s.cycle with
  | none => .idle
  | some cy => if cy.closingEntry.isSome then .closing else .opened

/-- The slot in use: that of the open cycle, absent in IDLE and in an unprofiled cycle (R30, R31). -/
def State.slotInUse (s : State) : Option SlotIx := s.cycle.bind (·.slot)

/-- Tick t lies in the window from the cycle's start tick up to, but not including, its end tick (R29). -/
def Cycle.contains (cy : Cycle) (t : Tick) : Bool :=
  atOrBefore cy.startTick t && (match cy.endTick with | none => true | some e => isBefore t e)

/-! ### Counters -/

/-- Changes the part's counters. -/
def State.count (s : State) (f : PartCounters → PartCounters) : State := { s with cnt := f s.cnt }

/-- Changes the counters of channel c. -/
def State.countChan (s : State) (c : Chan) (f : ChanCounters → ChanCounters) : State :=
  s.updChan c fun ch => { ch with cnt := f ch.cnt }

/-- One more misaddressed frame (R44, R48, R153, R27). -/
def countMisaddressed (s : State) : State :=
  s.count fun k => { k with misaddressed := inc16 k.misaddressed }

/-! ### Configuration -/

/-- Changes the part-wide configuration. -/
def State.configure (s : State) (f : PartConfig → PartConfig) : State := { s with cfg := f s.cfg }

/-! ### Lanes -/

/-- The occupancy of the control lane: its frames and the entry held for a response (R144). -/
def State.controlFill (s : State) : Nat := s.controlLane.length + (if s.held then 1 else 0)

/-- The free entries of the control lane (R144). -/
def State.controlFree (s : State) : Nat := Config.controlLaneCapacity - s.controlFill

/-- HOLD is asserted exactly while the hold reason set is non-empty (R127). (DESIGN CHOICE, a function of the state:
notes/assumptions/20.md.) -/
def State.holdLine (s : State) : Bool := !s.holdSet.isEmpty

/-- REJECT is high exactly while the reject timer runs (R132). -/
def State.rejectLine (s : State) : Bool := s.rejectExpiry.isSome

/-- TICK runs unless nRST is low (R19). -/
def State.tickRuns (s : State) : Bool := !s.nrstLow

end Sys2Proof.Machine
end

