-- ==== Sys2Proof/Machine/Flags.lean ====
section
/-! DEFINITION. The fault and action unit (chapter 7): rises and falls of the fault classes, the actions, the hold sets, the
reject timer and the causes of the alert. None of these operations makes the arbiter choose: Egress.lean does. -/

namespace Sys2Proof.Machine

/-- CHANNEL_LOST (R51, R121). -/
def clsChannelLost : ClassIx := 0
/-- STROKE_LOST (R25, R121). -/
def clsStrokeLost : ClassIx := 1
/-- LINK_ERR (R43, R121). -/
def clsLinkErr : ClassIx := 2
/-- UNKNOWN_MOULD (R31, R121). -/
def clsUnknownMould : ClassIx := 3
/-- CYCLE_OVERRUN (R35, R121). -/
def clsCycleOverrun : ClassIx := 4
/-- MARKER_ORDER (R32, R33, R121). -/
def clsMarkerOrder : ClassIx := 5
/-- OVERFLOW (R84, R143, R145, R156, R121). -/
def clsOverflow : ClassIx := 6
/-- RESET (R121). -/
def clsReset : ClassIx := 7

/-- A class is live while its condition is true or its forced bit is set (R121). -/
def FaultClass.live (k : FaultClass) : Bool := k.cond || k.forced

/-- Bit k of a byte, for class k (R159, R174). -/
def classBit (k : ClassIx) : BitVec 8 := BitVec.ofNat 8 (2 ^ k.val)

/-- The byte whose bit k tells whether class k has a property (R172, R174). -/
def State.classBits (s : State) (p : FaultClass → Bool) : BitVec 8 :=
  allClasses.foldl (fun b k => if p s.classes[k] then b ||| classBit k else b) 0

/-! ### Hold sets (section 7.3) -/

/-- The identifier of a zone, 16 times the slot plus the zone (R127). -/
def zoneId (k : SlotIx) (z : ZoneIx) : Nat := 16 * k.val + z.val

/-- The identifier of a fault class, 128 plus the class (R127). -/
def classId (k : ClassIx) : Nat := 128 + k.val

/-- Puts an identifier into an ascending set, once (R127). -/
def insertId (n : Nat) : List Nat → List Nat
  | [] => [n]
  | m :: ms => if n < m then n :: m :: ms else if n = m then m :: ms else m :: insertId n ms

/-- Puts the identifiers of a list into an ascending set (R128). -/
def insertIds : List Nat → List Nat → List Nat
  | [], l => l
  | n :: ns, l => insertIds ns (insertId n l)

/-- An addition to the hold reason set: the identifiers enter it and, unless hold_ms is 0, the hold timer starts or restarts
(R128, R129). -/
def addHold (ids : List Nat) (s : State) : State :=
  { s with
    holdSet := insertIds ids s.holdSet
    holdExpiry := if s.cfg.holdMs = 0 then s.holdExpiry else some (expiryAfterMs s.tick s.cfg.holdMs) }

/-- The close notice: the pending hold set moves into the hold reason set (R128). -/
def closeNotice (s : State) : State :=
  if s.pendingHold.isEmpty then s else { addHold s.pendingHold s with pendingHold := [] }

/-! ### Actions (section 7.2) -/

/-- The REJECT pulse starts or restarts, and the open cycle takes the REJECT flag (R132, R133). -/
def startReject (s : State) : State :=
  { s.updFlags (fun f => { f with reject := true }) with rejectExpiry := some (expiryAfterMs s.tick s.cfg.rejectMs) }

/-- What an action code does to the outputs for the source with the identifier (R126, R128). -/
def act (code : ActionCode) (id : Nat) (s : State) : State :=
  match code with
  | .none => s
  | .alert => s
  | .reject => startReject s
  | .holdAtEnd =>
    if s.cycle.isSome then { s with pendingHold := insertId id s.pendingHold } else addHold [id] s
  | .holdNow => addHold [id] s

/-- A cause of the alert: IDLE becomes PENDING, SENDING sets the re-pend mark (R134). -/
def alertCause (s : State) : State :=
  match s.alert with
  | .idle => { s with alert := .pending }
  | .pending => s
  | .sending => { s with rePend := true }

/-- Sets the changed bit of a class, for the frame in progress and for the next (R122, R135). -/
def noteChanged (k : ClassIx) (s : State) : State :=
  { s with
    news := { s.news with changed := s.news.changed ||| classBit k }
    newsSince := { s.newsSince with changed := s.newsSince.changed ||| classBit k } }

/-- One more zone action in an alert's news (R126). -/
def AlertNews.addZone (n : AlertNews) (a : ZoneAlert) : AlertNews :=
  { n with zoneAlerts := satAdd Config.max8 n.zoneAlerts 1, lastZone := some a }

/-- Notes a zone action for the alert (R126). -/
def noteZone (a : ZoneAlert) (s : State) : State :=
  { s with news := s.news.addZone a, newsSince := s.newsSince.addZone a }

/-- A zone fires an action other than NONE (R113, R126). -/
def fireZone (k : SlotIx) (z : ZoneIx) (code : ActionCode) (st : ZoneState) (s : State) : State :=
  match code with
  | .none => s
  | c => alertCause (act c (zoneId k z) (noteZone ⟨k, z, st⟩ s))

/-! ### Rises and falls (section 7.1) -/

/-- Replaces the record of class k. -/
def State.setClass (s : State) (k : ClassIx) (c : FaultClass) : State := { s with classes := s.classes.set k c }

/-- A rise of class k: its sticky and changed bits, and unless it is masked its action and the alert (R122). (DEDUCED order:
notes/assumptions/23.md.) -/
def rise (k : ClassIx) (s : State) : State :=
  let c := s.classes[k]
  let s := noteChanged k (s.setClass k { c with sticky := true })
  if c.masked then s else alertCause (act c.action (classId k) s)

/-- Gives class k a new record and takes the rise or the fall of its live value (R122). -/
def replaceClass (k : ClassIx) (c : FaultClass) (s : State) : State :=
  let was := (s.classes[k]).live
  let s := s.setClass k c
  if c.live && !was then rise k s else if was && !c.live then noteChanged k s else s

/-- The condition of class k becomes b (R121, R122). -/
def setCond (k : ClassIx) (b : Bool) (s : State) : State := replaceClass k { s.classes[k] with cond := b } s

/-- The forced bit of class k becomes b (R177). -/
def setForced (k : ClassIx) (b : Bool) (s : State) : State := replaceClass k { s.classes[k] with forced := b } s

/-- A momentary cause of class k: a rise and a fall at one instant, or nothing on a forced class (R121, R122). -/
def momentary (k : ClassIx) (s : State) : State := setCond k false (setCond k true s)

/-- The flag of channel c in channel_enable (R47). -/
def State.enabled (s : State) (c : Chan) : Bool := s.cfg.channelEnable.getLsbD c.val

/-- CHANNEL_LOST's condition: some channel whose flag in channel_enable is set is LOST (R51). -/
def anyLost (s : State) : Bool := allChans.any fun c => s.enabled c && (s.chan c).intake == .lost

/-- LINK_ERR's condition: the head link error counter is at or above link_err_limit (R43). -/
def linkErrDue (s : State) : Bool := s.cfg.linkErrLimit ≤ s.cnt.headLinkCrc

/-- The contents of an ALERT frame as they stand (R134). -/
def alertContents (s : State) : AlertContents where
  live := s.classBits FaultClass.live
  sticky := s.classBits (·.sticky)
  changed := s.news.changed
  holdAsserted := s.holdLine
  holdSize := s.holdSet.length
  zoneAlerts := s.news.zoneAlerts
  lastZone := s.news.lastZone

end Sys2Proof.Machine
end

