-- ==== Sys2Proof/Machine/Egress.lean ====
section
/-! DEFINITION. Egress (chapter 8): the arbiter, the two lanes, the forwarding stages, and the fault causes that make the
arbiter choose. -/

namespace Sys2Proof.Machine

/-! ### The arbiter (R146) -/

/-- The arbiter's choice: with the transmitter IDLE, the pause state FLOWING and no close or execution in progress, the
PENDING alert starts, else the head of the control lane, else the head of the sample lane (R134, R146, R148). (DEDUCED
instant: notes/assumptions/4.md.) -/
def arbitrate (s : State) : State :=
  if s.deferred || s.paused || s.tx.isSome then s
  else if s.alert = .pending then
    { s with tx := some (.alert (alertContents s)), alert := .sending, rePend := false, newsSince := .none }
  else
    match s.controlLane with
    | f :: rest => { s with tx := some (.control f), controlLane := rest }
    | [] =>
      match s.sampleLane with
      | f :: rest => { s with tx := some (.sample f), sampleLane := rest }
      | [] => s

/-- The completion of an ALERT transmission, as the fault and action unit takes it (R135). (DESIGN CHOICE of newsSince:
notes/assumptions/22.md.) -/
def alertComplete (s : State) : State :=
  { s with
    news := s.newsSince
    newsSince := .none
    alert := if s.rePend then .pending else .idle
    rePend := false }

/-- The completion of the transmission in progress, before the arbiter's choice; nothing when the transmitter is IDLE (R146). -/
def txComplete (s : State) : State :=
  match s.tx with
  | none => s
  | some (.alert _) => alertComplete { s with tx := none }
  | some (.control _) => { s with tx := none }
  | some (.sample _) => { s with tx := none }

/-! ### Fault causes, with the choice that a PENDING alert prompts -/

/-- A level condition is reported as b (R121), and the alert may start (R146). -/
def signal (k : ClassIx) (b : Bool) (s : State) : State := arbitrate (setCond k b s)

/-- A momentary cause is reported (R121), and the alert may start (R146). -/
def raise (k : ClassIx) (s : State) : State := arbitrate (momentary k s)

/-- CHANNEL_LOST is judged again (R51). -/
def judgeChannelLost (s : State) : State := signal clsChannelLost (anyLost s) s

/-- LINK_ERR is judged again (R43). -/
def judgeLinkErr (s : State) : State := signal clsLinkErr (linkErrDue s) s

/-! ### The control lane (R144, R145) -/

/-- A frame enters the control lane, and the arbiter may choose (R144, R146). -/
def enterControl (f : ControlFrame) (s : State) : State :=
  arbitrate { s with controlLane := s.controlLane ++ [f] }

/-- The event reserve lets a low-priority frame in (R144). -/
def reserveOpen (s : State) : Bool := Config.eventReserve ≤ s.controlFree

/-- An EVENT frame is offered while event_reports is on: it enters, or is dropped and counted (R93, R144). -/
def offerEvent (e : EventRec) (s : State) : State :=
  if s.cfg.eventReports then
    if reserveOpen s then enterControl (.event e) s
    else s.count fun k => { k with eventDrops := inc32 k.eventDrops }
  else s

/-- One more HEAD frame lost in either direction (R45, R155). -/
def countRelayDrop (s : State) : State :=
  s.count fun k => { k with headRelayDrops := inc16 k.headRelayDrops }

/-- A relayed HEAD frame is offered: it enters, or is dropped and counted (R45, R144). -/
def offerRelay (payload : List Byte) (s : State) : State :=
  if reserveOpen s then enterControl (.head payload) s else countRelayDrop s

/-- A CYCLE frame is offered: it enters when an entry is free, and a report that carries REPORT_LOST then clears the report
lost mark; otherwise it is lost, counted and marked, and OVERFLOW is raised (R118, R144, R145). -/
def offerReport (r : Report) (s : State) : State :=
  if 1 ≤ s.controlFree then
    enterControl (.cycle r) { s with reportLost := if r.flags.reportLost then false else s.reportLost }
  else
    raise clsOverflow
      { s.count (fun k => { k with reportsLost := inc16 k.reportsLost }) with reportLost := true }

/-! ### The sample lane and the forwarding stages (R138-R143) -/

/-- A sample frame is offered to the sample lane: it enters with its trailer fixed and the channel's owed marks cleared, or it
is dropped, counted and owed, and OVERFLOW is raised (R142, R143). -/
def offerSample (c : Chan) (payload : List Byte) (gap hitStart inHit : Bool) (s : State) : State :=
  let ch := s.chan c
  if s.sampleLane.length < Config.sampleLaneCapacity then
    let frame : SampleOut :=
      { chan := c, payload := payload, hitStart := hitStart, inHit := inHit, gapBefore := gap || ch.gapOwed,
        dropBefore := ch.dropOwed }
    let s := s.updChan c fun ch => { ch with gapOwed := false, dropOwed := false }
    arbitrate { s with sampleLane := s.sampleLane ++ [frame] }
  else
    raise clsOverflow
      (s.updChan c fun ch =>
        { ch with
          dropOwed := true
          gapOwed := gap || ch.gapOwed
          cnt := { ch.cnt with forwardedDrops := inc32 ch.cnt.forwardedDrops } })

/-- Offers the frames of a pre-trigger queue, oldest first (R139, R140). -/
def offerQueued (c : Chan) : List QueuedSample → State → State
  | [], s => s
  | q :: qs, s => offerQueued c qs (offerSample c q.payload q.gapBefore false false s)

/-- The channel with its pre-trigger queue cut to its n latest frames; the gap-before marks of the discarded frames become
owed (R140). -/
def Channel.trimQueue (n : Nat) (ch : Channel) : Channel :=
  { ch with
    preQueue := ch.preQueue.drop (ch.preQueue.length - n)
    gapOwed := ch.gapOwed || (ch.preQueue.take (ch.preQueue.length - n)).any (·.gapBefore) }

/-- A frame enters the pre-trigger queue, which pushes out its oldest when it is full; with pre 0 the frame itself goes
(R140). -/
def Channel.enqueuePre (q : QueuedSample) (ch : Channel) : Channel :=
  Channel.trimQueue ch.pre { ch with preQueue := ch.preQueue ++ [q] }

/-- The marks a frame carries from the detector (R78). -/
structure FrameMarks where
  hitStarted : Bool
  inHit : Bool
  hitClosed : Bool
  deriving DecidableEq, Repr

/-- What AROUND_HITS forwards of a frame (R139). -/
def forwardAroundHits (c : Chan) (payload : List Byte) (gap : Bool) (m : FrameMarks) (s : State) : State :=
  let ch := s.chan c
  let offered : State :=
    if m.hitStarted then
      offerSample c payload gap m.hitStarted m.inHit
        (offerQueued c ch.preQueue (s.updChan c fun ch => { ch with preQueue := [] }))
    else if m.inHit || m.hitClosed then offerSample c payload gap m.hitStarted m.inHit s
    else if 0 < ch.postRemaining then
      offerSample c payload gap m.hitStarted m.inHit
        (s.updChan c fun ch => { ch with postRemaining := ch.postRemaining - 1 })
    else s.updChan c (Channel.enqueuePre ⟨payload, gap⟩)
  offered.updChan c fun ch =>
    if ch.det = .inHit then { ch with postRemaining := 0 }
    else if m.hitClosed then { ch with postRemaining := ch.post }
    else ch

/-- The forwarding stage judges an accepted frame by the channel's policy (R138). -/
def forward (c : Chan) (payload : List Byte) (gap : Bool) (m : FrameMarks) (s : State) : State :=
  match (s.chan c).policy with
  | .drop => s
  | .all => offerSample c payload gap m.hitStarted m.inHit s
  | .aroundHits => forwardAroundHits c payload gap m s

/-- The forwarding stage of a channel is told of a hit's end that no frame carries, and judges it by the policy in force at that
instant (R141). (DESIGN CHOICE between R149 and R165: notes/assumptions/27.md.) -/
def Channel.hitEnded (ch : Channel) : Channel :=
  if ch.policy = .aroundHits then { ch with postRemaining := ch.post } else ch

/-- The forwarding stage at a write of its policy and at a disable: the pre-trigger queue is emptied and post remaining is 0
(R140, R149). -/
def Channel.resetStage (ch : Channel) : Channel := { Channel.trimQueue 0 ch with postRemaining := 0 }

/-! ### The head link transmitter (R155) -/

/-- The head link transmitter starts the head of the head-bound queue when it is IDLE (R155). -/
def headTxChoose (s : State) : State :=
  match s.headTx, s.headBound with
  | none, f :: rest => { s with headTx := some f, headBound := rest }
  | _, _ => s

/-- A head-bound frame arrives: it joins the queue, or is dropped and counted when four wait; an IDLE transmitter starts
(R155). -/
def enqueueHeadBound (f : HeadFrame) (s : State) : State :=
  if s.headBound.length < Config.headBoundCapacity then headTxChoose { s with headBound := s.headBound ++ [f] }
  else countRelayDrop s

end Sys2Proof.Machine
end

