-- ==== Sys2Proof/Machine/Stroke.lean ====
section
/-! DEFINITION. The stroke timer (R21-R25), the phase log's lookups (R28) and the classes of sample ticks (R29). -/

namespace Sys2Proof.Machine

/-! ### Phases (R28) -/

/-- The margins' class of a phase (R28). -/
def Phase.toClass : Phase → PhaseClass
  | .none => .other
  | .fill => .other
  | .previb => .vib
  | .mainvib => .vib
  | .strip => .strip
  | .ret => .other

/-- The phase a PHASE marker carries (R170). -/
def Phase.ofMarker : MarkerPhase → Phase
  | .fill => .fill
  | .previb => .previb
  | .mainvib => .mainvib
  | .strip => .strip
  | .ret => .ret

/-- The phase's number (R173). -/
def Phase.number : Phase → Nat
  | .none => 0
  | .fill => 1
  | .previb => 2
  | .mainvib => 3
  | .strip => 4
  | .ret => 5

/-- The phase of tick t: that of the latest log entry at or before t, NONE where there is none (R28). -/
def phaseAt (log : List PhaseEntry) (t : Tick) : Phase :=
  log.foldl (fun acc e => if atOrBefore e.tick t then e.phase else acc) .none

/-- The tick of the PHASE marker that began the current run of VIB phases; absent when the current phase is of another class
(R25). -/
def vibRunStart (log : List PhaseEntry) : Option Tick :=
  log.foldl
    (fun acc e =>
      if e.phase.toClass = .vib then
        match acc with
        | some r => some r
        | none => some e.tick
      else none)
    none

/-! ### The class of a sample tick (R29) -/

/-- The class of sample tick t against the cycle record and the closed horizon as they stand; the rows are tried in order
(R29). -/
def sampleClass (s : State) (t : Tick) : SampleClass :=
  if (match s.cycle with | some cy => cy.contains t | none => false) then .inWindow
  else if (match s.horizon with | some h => isBefore t h | none => false) then .late
  else .outside

/-! ### The stroke history (R21, R22, R24) -/

/-- The period of an edge at tick t: VALID within the stroke limits, INVALID otherwise and with no previous tick held
(R22). -/
def edgePeriod (s : State) : Option Nat :=
  match s.lastStroke with
  | none => none
  | some l =>
    let p := ticksSince s.tick l
    if (s.cfg.strokeMin : Int) ≤ p ∧ p ≤ s.cfg.strokeMax then some p.toNat else none

/-- The entries of a history, cut to the eight latest (R22). -/
def lastEight (l : List StrokeEntry) : List StrokeEntry := l.drop (l.length - Config.strokeEntries)

/-- An edge is a bounce when it comes less than stroke_min ticks after the last accepted one (R21). -/
def isBounce (s : State) : Bool :=
  match s.lastStroke with
  | none => false
  | some l => ticksSince s.tick l < s.cfg.strokeMin

/-- An accepted edge at the current tick: it enters the history, and STROKE_LOST falls (R22, R25). -/
def acceptStroke (s : State) : State :=
  signal clsStrokeLost false
    { s with
      strokes := lastEight (s.strokes ++ [⟨s.tick, edgePeriod s⟩])
      lastStroke := some s.tick }

/-- A rising edge on STROKE (R21, R22). -/
def strokeEdge (s : State) : State :=
  if isBounce s then s.count fun k => { k with strokeBounces := inc16 k.strokeBounces } else acceptStroke s

/-- The stillness of R22: 65,536 ticks after the last accepted stroke tick the history is emptied and that tick becomes
absent. Without effect before. (DESIGN CHOICE of expiries as commands: notes/assumptions/5.md.) -/
def strokeStillness (s : State) : State :=
  match s.lastStroke with
  | none => s
  | some l =>
    if (Config.stillnessTicks : Int) ≤ ticksSince s.tick l then { s with strokes := [], lastStroke := none } else s

/-- The latest entry at or before tick t of a history in increasing tick order (R24). -/
def strokeBefore (l : List StrokeEntry) (t : Tick) : Option StrokeEntry :=
  l.foldl (fun acc e => if atOrBefore e.tick t then some e else acc) none

/-- The stroke angle of a hit that starts at tick t, absent when it is unphased (R24). -/
def angleAt (s : State) (t : Tick) : Option Nat :=
  match strokeBefore s.strokes t with
  | none => none
  | some e =>
    match e.period with
    | none => none
    | some p => some (min 255 ((ticksSince t e.tick).toNat * 256 / p))

/-! ### STROKE_LOST (R25) -/

/-- The stroke reference tick: the later of the last accepted stroke tick and the start of the current run of VIB phases;
absent outside a VIB phase of an open cycle (R25). -/
def strokeReference (s : State) : Option Tick :=
  match s.cycle with
  | none => none
  | some cy =>
    match vibRunStart cy.log with
    | none => none
    | some r =>
      match s.lastStroke with
      | none => some r
      | some l => if isBefore r l then some l else some r

/-- STROKE_LOST's two conditions hold: a VIB phase of the open cycle, and more than stroke_max ticks since the stroke
reference tick (R25). -/
def strokeLostDue (s : State) : Bool :=
  match strokeReference s with
  | none => false
  | some r => (s.cfg.strokeMax : Int) < ticksSince s.tick r

/-- The expiry that makes STROKE_LOST true (R25). Without effect when it is not due. (DESIGN CHOICE: notes/assumptions/5.md.)
-/
def strokeLostExpiry (s : State) : State := if strokeLostDue s then signal clsStrokeLost true s else s

/-- The closed horizon becomes absent 65,536 ticks after it (R29). Without effect before. (DESIGN CHOICE:
notes/assumptions/5.md.) -/
def closedHorizonExpiry (s : State) : State :=
  match s.horizon with
  | none => s
  | some h => if (Config.horizonTicks : Int) ≤ ticksSince s.tick h then { s with horizon := none } else s

end Sys2Proof.Machine
end

