-- ==== Sys2Proof/Machine/Assembler.lean ====
section
/-! DEFINITION. The hit assembler (chapter 5): the pending hit list, resolution, events, gating and tallies. -/

namespace Sys2Proof.Machine

/-! ### Order of the pending hit list (R80) -/

/-- Hit h stands before hit g of the list when it joins: by start tick, then by channel; a hit of equal start and channel
follows those already present (R80, R81). -/
def joinsBefore (h g : Hit) : Bool :=
  isBefore h.start g.start || (h.start == g.start && h.chan < g.chan)

/-- The list with hit h at the place its start tick, channel and arrival give it (R81). -/
def insertHit (h : Hit) : List Hit → List Hit
  | [] => [h]
  | g :: gs => if joinsBefore h g then h :: g :: gs else g :: insertHit h gs

/-! ### Zones of the slot in use -/

/-- The DEFINED zones of the slot in use in index order, with their positions; none in an unprofiled cycle (R88, R89). -/
def zonesInUse (s : State) : List (ZoneIx × Zone) :=
  match s.slotInUse with
  | none => []
  | some k => allZones.filterMap fun z => (s.zone? k z).map fun r => (z, r)

/-! ### Partners (R87, R88) -/

/-- Hit g may be the partner of the head h (R87). -/
def isCandidate (pairSpan : Nat) (h g : Hit) : Bool :=
  g.cycle == h.cycle && g.chan != h.chan && atOrBefore g.start (tickAdd h.start pairSpan) && !g.truncated && !g.long

/-- The delay window of a PAIR zone admits delta (R7). -/
def inWindow (dmin dmax delta : Int) : Bool := dmin ≤ delta && delta ≤ dmax

/-- The partner that one zone finds for h among the candidates, with its delta: only the first candidate on the sought
channel is tried (R88). -/
def zonePartner (k : ZoneKind) (h : Hit) (cands : List Hit) : Option (Hit × Int) :=
  match k with
  | .single _ => none
  | .pair x y dmin dmax =>
    if h.chan = x then
      match cands.find? (·.chan == y) with
      | none => none
      | some g => if inWindow dmin dmax (ticksSince g.start h.start) then some (g, ticksSince g.start h.start) else none
    else if h.chan = y then
      match cands.find? (·.chan == x) with
      | none => none
      | some g => if inWindow dmin dmax (ticksSince h.start g.start) then some (g, ticksSince h.start g.start) else none
    else none

/-- The first PAIR zone in index order that finds a partner (R88). -/
def findPair (h : Hit) (cands : List Hit) : List (ZoneIx × Zone) → Option (ZoneIx × Zone × Hit × Int)
  | [] => none
  | (z, r) :: zs =>
    match zonePartner r.defn.kind h cands with
    | some (g, d) => some (z, r, g, d)
    | none => findPair h cands zs

/-- The SINGLE zone of lowest index on channel c (R89). -/
def findSingle (c : Chan) (zs : List (ZoneIx × Zone)) : Option (ZoneIx × Zone) :=
  zs.find? fun p => p.2.defn.kind == .single c

/-! ### Events and gating (R7, R90, R91) -/

/-- The stroke gate holds angle a; it wraps when gate_lo is above gate_hi (R7). -/
def inGate (lo hi a : Nat) : Bool := if lo ≤ hi then lo ≤ a && a ≤ hi else lo ≤ a || a ≤ hi

/-- An event of the phase, area and angle scores in the zone (R91). -/
def scores (d : ZoneDef) (phase : Phase) (area : Nat) (angle : Option Nat) : Bool :=
  d.phaseMask.getLsbD phase.number && d.minArea ≤ area &&
    (match angle with
     | some a => inGate d.gateLo d.gateHi a
     | none => !d.requirePhase)

/-- The event of a head hit alone in a SINGLE zone (R90, R91). -/
def singleEvent (z : ZoneIx) (d : ZoneDef) (h : Hit) : EventRec where
  zone := z
  cycle := h.cycle
  primary := h.chan
  start := h.start
  mate := none
  peak := h.peak
  area := h.area
  angle := h.angle
  phase := h.phase
  duration := h.duration
  rise := h.rise
  injected := h.injected
  scored := scores d h.phase h.area h.angle

/-- The event of a head hit and its partner in a PAIR zone (R90, R91). -/
def pairEvent (z : ZoneIx) (d : ZoneDef) (h g : Hit) (delta : Int) : EventRec where
  zone := z
  cycle := h.cycle
  primary := h.chan
  start := h.start
  mate := some ⟨g.chan, delta⟩
  peak := max h.peak g.peak
  area := h.area + g.area
  angle := h.angle
  phase := h.phase
  duration := h.duration
  rise := h.rise
  injected := h.injected || g.injected
  scored := scores d h.phase (h.area + g.area) h.angle

/-- A zone's tally after an event (R92). -/
def Tally.add (t : Tally) (scored : Bool) (area : Nat) : Tally :=
  if scored then
    { t with count := satAdd Config.max8 t.count 1, areaSum := satAdd Config.areaSumMax t.areaSum area }
  else { t with ungated := satAdd Config.max8 t.ungated 1 }

/-- An event is added to its zone's tally and then offered as an EVENT frame (R92, R93). -/
def takeEvent (e : EventRec) (s : State) : State :=
  offerEvent e
    (s.updCycle fun cy => { cy with tallies := cy.tallies.set e.zone (cy.tallies[e.zone].add e.scored e.area) })

/-! ### Resolution (R82-R89, R95) -/

/-- The head h of the list is resolved, with the candidates of the rest (R86-R89). -/
def resolveHit (h : Hit) (rest : List Hit) (s : State) : State :=
  let s := { s with hits := rest }
  if h.truncated || h.long then s.updCounts fun k => { k with noise := inc32 k.noise }
  else
    let zs := zonesInUse s
    match findPair h (rest.filter (isCandidate s.cfg.pairSpan h)) zs with
    | some (z, r, g, delta) =>
      takeEvent (pairEvent z r.defn h g delta)
        ({ s with hits := rest.erase g }.updCounts fun k => { k with pairEvents := inc32 k.pairEvents })
    | none =>
      match findSingle h.chan zs with
      | some (z, r) =>
        takeEvent (singleEvent z r.defn h) (s.updCounts fun k => { k with singleEvents := inc32 k.singleEvents })
      | none => s.updCounts fun k => { k with unlocated := inc32 k.unlocated }

/-- The head of the list is resolved; nothing on an empty list. -/
def resolveHead (s : State) : State :=
  match s.hits with
  | [] => s
  | h :: rest => resolveHit h rest s

/-- The settled tick of channel c is at or after t (R36, R82); an absent one is not. -/
def settledTo (s : State) (c : Chan) (t : Tick) : Bool :=
  match (s.chan c).sigma with
  | none => false
  | some g => atOrBefore t g

/-- The head h may be resolved: every other LIVE channel has settled pair_span beyond its start (R82). -/
def headReady (h : Hit) (s : State) : Bool :=
  allChans.all fun c => c == h.chan || !s.isLive c || settledTo s c (tickAdd h.start s.cfg.pairSpan)

/-- The resolution test, repeated up to n times: while the head may be resolved it is (R83). -/
def resolveReady : Nat → State → State
  | 0, s => s
  | n + 1, s =>
    match s.hits with
    | [] => s
    | h :: _ => if headReady h s then resolveReady n (resolveHead s) else s

/-- The resolution test of one occasion (R83). -/
def resolutionTest (s : State) : State := resolveReady s.hits.length s

/-- Resolves up to n heads without the test (R95). -/
def resolveMany : Nat → State → State
  | 0, s => s
  | n + 1, s => resolveMany n (resolveHead s)

/-- The final resolution of a close: every pending hit (R95). -/
def resolveAll (s : State) : State := resolveMany s.hits.length s

/-- An early resolution: the head goes at once, is counted, and OVERFLOW is raised (R84). -/
def earlyResolution (s : State) : State :=
  raise clsOverflow ((resolveHead s).count fun k => { k with earlyResolutions := inc32 k.earlyResolutions })

/-- A hit joins the list: an early resolution first when the list is full, then its insertion and count, then the resolution
test (R81, R84). -/
def joinList (h : Hit) (s : State) : State :=
  let s := if Config.pendingCapacity ≤ s.hits.length then earlyResolution s else s
  resolutionTest
    ({ s with hits := insertHit h s.hits }.updCounts fun k => { k with hitsClosed := inc32 k.hitsClosed })

end Sys2Proof.Machine
end

