-- ==== Sys2Proof/Machine/Evaluator.lean ====
section
/-! DEFINITION. The evaluator (chapter 6): the arithmetic of one zone, its state and actions, the evaluation of a slot and the
CYCLE report. -/

namespace Sys2Proof.Machine

/-! ### The arithmetic of one zone (R102-R107) -/

/-- The zone's cycle is exceeded (R102). -/
def exceeded (d : ZoneDef) (t : Tally) : Bool := d.countLimit ≤ t.count

/-- The contribution q (R103). -/
def contribution (d : ZoneDef) (t : Tally) : Nat := min Config.max16 (t.areaSum >>> d.areaShift)

/-- The leaked evidence E1 (R104). -/
def leaked (d : ZoneDef) (evidence : Nat) (blind : Bool) : Nat :=
  if blind then evidence else evidence - evidence >>> d.leakShift

/-- The new evidence E2 (R105). -/
def newEvidence (d : ZoneDef) (evidence : Nat) (t : Tally) (blind : Bool) : Nat :=
  satAdd Config.max16 (leaked d evidence blind) (contribution d t)

/-- The new successive count n (R106). -/
def newCount (n : Nat) (exc blind : Bool) : Nat := if exc then satAdd 8 n 1 else if blind then n else 0

/-- The crack condition (R107). -/
def crackCondition (d : ZoneDef) (n e2 : Nat) : Bool := d.tripCycles ≤ n || d.tripLevel ≤ e2

/-- The watch condition (R107). -/
def watchCondition (d : ZoneDef) (exc : Bool) (e2 : Nat) : Bool := exc || d.watchLevel ≤ e2

/-- The release level (R107). -/
def releaseLevel (d : ZoneDef) : Nat := d.watchLevel - d.watchHyst

/-- The zone's new state; the first line that applies decides (R108). -/
def newState (d : ZoneDef) (st : ZoneState) (n e2 : Nat) (exc blind : Bool) : ZoneState :=
  match st with
  | .crack => .crack
  | st =>
    if crackCondition d n e2 then .crack
    else if watchCondition d exc e2 then .watch
    else if st = .watch ∧ (releaseLevel d ≤ e2 ∨ blind = true) then .watch
    else .clear

/-- The runtime that the evaluation of a zone stores for the cycle (R104-R109). -/
def evaluateZone (d : ZoneDef) (r : Runtime) (t : Tally) (blind : Bool) (cycle : CycleNumber) : Runtime :=
  let exc := exceeded d t
  let e2 := newEvidence d r.evidence t blind
  let n := newCount r.count exc blind
  let st := newState d r.state n e2 exc blind
  { state := st
    evidence := e2
    count := n
    crackCycle := match st with
      | .crack => if r.state = .crack then r.crackCycle else some cycle
      | _ => none
    lastCycle := some cycle }

/-- The action code that the evaluation fires, by the zone's state before and after; NONE where nothing fires (R111,
R112). -/
def firedCode (d : ZoneDef) : ZoneState → ZoneState → ActionCode
  | .clear, .watch => d.watchAction.code
  | .watch, .watch => if d.watchAction.repeats then d.watchAction.code else .none
  | .clear, .crack => d.crackAction.code
  | .watch, .crack => d.crackAction.code
  | .crack, .crack => if d.crackAction.repeats then d.crackAction.code else .none
  | _, _ => .none

/-! ### The evaluation of the slot in use (R99, R100) -/

/-- One zone of slot k at the close of the cycle: evaluated, stored, and its action fired; an UNDEFINED zone is passed over
(R99, R109, R113). -/
def evaluateAt (k : SlotIx) (cy : Cycle) (z : ZoneIx) (s : State) : State :=
  match s.zone? k z with
  | none => s
  | some r =>
    let rt := evaluateZone r.defn r.rt cy.tallies[z] (cy.blind.contains z) cy.number
    fireZone k z (firedCode r.defn r.rt.state rt.state) rt.state (s.setZone k z (some { r with rt := rt }))

/-- The evaluation of slot k: its zones in index order, then its cycle count (R99, R114). -/
def evaluateSlot (k : SlotIx) (cy : Cycle) (s : State) : State :=
  (forEach (evaluateAt k cy) allZones s).updProfile k fun p => { p with cycleCount := inc32 p.cycleCount }

/-! ### The CYCLE report (R115-R117) -/

/-- The zone entries of an evaluated cycle of slot k (R116). -/
def zoneEntries (s : State) (k : SlotIx) (cy : Cycle) : List ZoneEntry :=
  allZones.filterMap fun z =>
    (s.zone? k z).map fun r =>
      { zone := z
        tally := cy.tallies[z]
        evidence := r.rt.evidence
        state := r.rt.state
        count := r.rt.count
        blind := cy.blind.contains z }

/-- The report of the cycle as it stands, with the given zone entries and the report lost mark copied into its flags (R115,
R145). -/
def buildReport (s : State) (cy : Cycle) (zones : List ZoneEntry) : Report where
  number := cy.number
  mould := cy.mould
  slot := cy.slot
  flags := { cy.flags with reportLost := s.reportLost }
  counts := cy.counts
  zones := zones

end Sys2Proof.Machine
end

