-- ==== Sys2Proof/Machine/CycleControl.lean ====
section
/-! DEFINITION. The cycle controller (R26-R39): truncation and discard of open hits, close, abandonment, settle, timeouts and
markers, and the blind set (R54). -/

namespace Sys2Proof.Machine

/-! ### The ends of a hit that the cycle makes (R71-R73) -/

/-- The hit record of an open hit as it stands, with the angle that the stroke timer gives at this instant (R75, R76). -/
def recordOf (s : State) (c : Chan) (o : OpenHit) (truncated long : Bool) : Hit where
  chan := c
  cycle := o.cycle
  start := o.start
  duration := o.duration
  peak := o.peak
  rise := (ticksSince o.peakTick o.start).toNat
  area := o.area
  phase := o.phase
  angle := angleAt s o.start
  truncated := truncated
  long := long
  injected := false

/-- A closed hit is handed to the assembler and counted on its channel (R76, R79). -/
def handOn (h : Hit) (s : State) : State :=
  joinList h
    (s.countChan h.chan fun k =>
      { k with
        hitsClosed := inc32 k.hitsClosed
        hitsTruncated := if h.truncated then inc32 k.hitsTruncated else k.hitsTruncated })

/-- The detector after a truncation: ARMED, no open hit, no dead-time end tick, and sigma at the last sample taken (R71, R72,
R77). -/
def Channel.disarmed (ch : Channel) (sigma : Option Tick) : Channel :=
  { ch with det := .armed, openHit := none, deadTime := none, sigma := sigma }

/-- A forced close truncates the hit open on channel c if it started in the closed window (R72, R141). The hit joins the list
like any other, so a full list makes an early resolution first (R84). (DEDUCED beside R95: notes/assumptions/25.md.) -/
def truncateAtClose (cy : Cycle) (c : Chan) (s : State) : State :=
  match (s.chan c).openHit with
  | none => s
  | some o =>
    if cy.contains o.start then
      handOn (recordOf s c o true false)
        (s.updChan c fun ch => (ch.disarmed ch.lastTaken).hitEnded)
    else s

/-- An abandonment discards the hit open on channel c without handing it on (R73, R141). (DEDUCED settled tick:
notes/assumptions/21.md.) -/
def discardHit (c : Chan) (s : State) : State :=
  match (s.chan c).openHit with
  | none => s
  | some _ =>
    s.updChan c fun ch =>
      { ch.hitEnded with det := .blocked, openHit := none, deadTime := none, sigma := ch.lastTaken }

/-! ### The close of a cycle (R38, R100) -/

/-- The record is cleared, the cycle state is IDLE, and STROKE_LOST falls (R25, R38). -/
def clearCycle (s : State) : State := setCond clsStrokeLost false { s with cycle := none }

/-- The in-use mark of the cycle's slot is cleared (R4). -/
def releaseSlot (cy : Cycle) (s : State) : State :=
  match cy.slot with
  | none => s
  | some k => s.markSlot k false

/-- The evaluation and the zone entries of its report: none for an unprofiled cycle (R38, R99, R117). -/
def evaluateCycle (cy : Cycle) (s : State) : State :=
  match cy.slot with
  | none => s
  | some k => evaluateSlot k cy s

/-- The zone entries that the report of the closing cycle carries (R116, R117). -/
def reportEntries (s : State) (cy : Cycle) : List ZoneEntry :=
  match cy.slot with
  | none => []
  | some k => zoneEntries s k cy

/-- Steps 3 to 6 of a close and the clearing of the record: the report is built with the flags as the actions left them, the
slot released, the report offered, the close notice given (R100). -/
def reportAndClear (s : State) : State :=
  match s.cycle with
  | none => s
  | some cy =>
    let r := buildReport s cy (reportEntries s cy)
    clearCycle (closeNotice (offerReport r (releaseSlot cy s)))

/-- The close from the final resolution on (R95, R99, R100). -/
def finishClose (s : State) : State :=
  let s := resolveAll s
  match s.cycle with
  | none => s
  | some cy => reportAndClear (evaluateCycle cy s)

/-- The close of the open cycle, whose end tick is set, taken whole; the arbiter's choice waits for its end (R38, R146). -/
def closeCycle (forced : Bool) (s : State) : State :=
  match s.cycle with
  | none => s
  | some cy =>
    let wasDeferred := s.deferred
    let s := { s with horizon := cy.endTick, deferred := true }
    let s := if forced then forEach (truncateAtClose cy) allChans s else s
    arbitrate { finishClose s with deferred := wasDeferred }

/-- The open cycle is force-closed: FORCED is set, and a cycle that was OPEN takes the current tick as its end tick (R34, R35,
R37). -/
def forceClose (timeout : Bool) (s : State) : State :=
  closeCycle true
    (s.updCycle fun cy =>
      { cy with
        endTick := some (cy.endTick.getD s.tick)
        flags := { cy.flags with forced := true, timeout := cy.flags.timeout || timeout } })

/-! ### Abandonment (R39, R96) -/

/-- STOP or RESTART abandons the open cycle: its hits are discarded, nothing is evaluated, the slot is released and an
ABANDONED report is offered (R39, R73, R96, R117). -/
def abandonCycle (s : State) : State :=
  match s.cycle with
  | none => s
  | some cy =>
    let wasDeferred := s.deferred
    let cy :=
      { cy with endTick := some (cy.endTick.getD s.tick), flags := { cy.flags with abandoned := true } }
    let s := { s with cycle := some cy, horizon := some s.tick, deferred := true }
    let s := { forEach discardHit allChans s with hits := [] }
    let s := offerReport (buildReport s cy []) (releaseSlot cy s)
    arbitrate { clearCycle (closeNotice s) with deferred := wasDeferred }

/-! ### Settle (R36) -/

/-- The CLOSING cycle has reached settle: every LIVE channel has settled pair_span beyond its end tick (R36). -/
def settleReached (s : State) : Bool :=
  match s.cycle with
  | none => false
  | some cy =>
    cy.closingEntry.isSome &&
      (match cy.endTick with
       | none => false
       | some e => allChans.all fun c => !s.isLive c || settledTo s c (tickAdd e s.cfg.pairSpan))

/-- The settle test: a CLOSING cycle that has reached settle closes normally (R36). -/
def settleTest (s : State) : State := if settleReached s then closeCycle false s else s

/-- A channel's settled tick has advanced, a channel has left LIVE or pair_span was written: the resolution test, then the
settle test (R36, R83). (DESIGN CHOICE of their order: notes/assumptions/26.md.) -/
def settledMoved (s : State) : State := settleTest (resolutionTest s)

/-! ### Timeouts (R35, R37) -/

/-- The cycle timeout of an OPEN cycle is due (R35). -/
def cycleTimeoutDue (s : State) : Bool :=
  match s.cycle with
  | none => false
  | some cy => cy.closingEntry.isNone && (s.cfg.maxCycleTicks : Int) ≤ ticksSince s.tick cy.startTick

/-- The cycle timeout when it is due: CYCLE_OVERRUN is raised, then the cycle is force-closed at the current tick with FORCED
and TIMEOUT (R35, R123). (DESIGN CHOICE: notes/assumptions/5.md. DEDUCED that the arbiter's choice which CYCLE_OVERRUN prompts
comes before the close and does not wait for it: notes/assumptions/29.md.) -/
def cycleTimeout (s : State) : State :=
  if cycleTimeoutDue s then forceClose true (raise clsCycleOverrun s) else s

/-- The settle timeout of a CLOSING cycle is due (R37). -/
def settleTimeoutDue (s : State) : Bool :=
  match s.cycle with
  | none => false
  | some cy =>
    match cy.closingEntry with
    | none => false
    | some e => (s.cfg.settleTimeout : Int) ≤ ticksSince s.tick e

/-- The settle timeout when it is due: the cycle is force-closed with its end tick kept (R37). (DESIGN CHOICE:
notes/assumptions/5.md.) -/
def settleTimeout (s : State) : State := if settleTimeoutDue s then forceClose false s else s

/-! ### The blind set (R54) -/

/-- A zone uses channel c (R54). -/
def ZoneKind.uses (k : ZoneKind) (c : Chan) : Bool :=
  match k with
  | .pair x y _ _ => x == c || y == c
  | .single x => x == c

/-- The DEFINED zones of the slot in use that use channel c (R54). -/
def zonesUsing (s : State) (c : Chan) : List ZoneIx :=
  ((zonesInUse s).filter fun p => p.2.defn.kind.uses c).map (·.1)

/-- Adds to a blind set the zones it does not hold yet (R54). -/
def joinZones : List ZoneIx → List ZoneIx → List ZoneIx
  | [], b => b
  | z :: zs, b => joinZones zs (if b.contains z then b else b ++ [z])

/-- The zones that use channel c join the blind set of the open profiled cycle (R54). -/
def joinBlind (c : Chan) (s : State) : State :=
  let zs := zonesUsing s c
  s.updCycle fun cy => { cy with blind := joinZones zs cy.blind }

/-- Tick t lies before the open cycle's end tick, or that is absent (R54). -/
def beforeEnd (s : State) (t : Tick) : Bool :=
  match s.cycle with
  | none => false
  | some cy => match cy.endTick with | none => true | some e => isBefore t e

/-- A LIVE channel that stops hearing makes its zones blind when its expected tick is before the end tick (R54). -/
def joinIfDeaf (c : Chan) (s : State) : State :=
  match (s.chan c).expected with
  | none => s
  | some t => if beforeEnd s t then joinBlind c s else s

/-- The ticks from a to b, a at or before b, include a tick of the open cycle's window, which runs from its start tick up to,
but not including, its end tick and is empty where the two are one tick (R29, R54, R101). -/
def spanMeetsWindow (s : State) (a b : Tick) : Bool :=
  match s.cycle with
  | none => false
  | some cy => atOrBefore cy.startTick b && beforeEnd s a && beforeEnd s cy.startTick

/-! ### Markers (R27, R31-R34) -/

/-- One more marker out of order (R27). -/
def countMarker (s : State) : State :=
  s.count fun k => { k with markersOutOfOrder := inc16 k.markersOutOfOrder }

/-- A well-formed marker out of order in RUNNING is counted and raises MARKER_ORDER (R32, R33). -/
def markerOutOfOrder (s : State) : State := raise clsMarkerOrder (countMarker s)

/-- A well-formed marker acts in RUNNING and is ignored and counted in STOPPED (R27). -/
def inRunning (f : State → State) (s : State) : State :=
  match s.run with
  | .running => f s
  | .stopped => countMarker s

/-- The DEFINED slot whose mould ID is the marker's (R2, R31). -/
def findSlot (s : State) (mould : MouldId) : Option SlotIx :=
  if mould = 0 ∨ mould = 0xFFFF then none
  else allSlots.find? fun k => match (s.slot k).profile with | some p => p.mouldId == mould | none => false

/-- The record of a cycle that opens now (R31). -/
def newCycle (s : State) (mould : MouldId) (number : CycleNumber) (slot : Option SlotIx) : Cycle where
  number := number
  mould := mould
  slot := slot
  startTick := s.tick
  endTick := none
  closingEntry := none
  log := []
  flags := { CycleFlags.none with unknownMould := slot.isNone }
  blind := []
  tallies := Vector.replicate 16 Tally.zero
  counts := .zero

/-- The zones of a channel that is WAITING or LOST at the opening join the blind set (R54). -/
def joinAtOpening (c : Chan) (s : State) : State :=
  match (s.chan c).intake with
  | .waiting => joinBlind c s
  | .lost => joinBlind c s
  | _ => s

/-- A cycle opens: its slot is chosen and marked in use, or it is unprofiled and UNKNOWN_MOULD is raised (R31, R54, R123). -/
def openCycle (mould : MouldId) (number : CycleNumber) (s : State) : State :=
  match findSlot s mould with
  | some k =>
    forEach joinAtOpening allChans ({ s with cycle := some (newCycle s mould number (some k)) }.markSlot k true)
  | none => raise clsUnknownMould { s with cycle := some (newCycle s mould number none) }

/-- A CYCLE_START in RUNNING: an open cycle is force-closed, then the new one opens (R31, R34). The choice that the close put off
is made at the close's end, before the opening. (DESIGN CHOICE beside R38 and R146: notes/assumptions/28.md.) -/
def cycleStart (mould : MouldId) (number : CycleNumber) (s : State) : State :=
  openCycle mould number (match s.cycle with | some _ => forceClose false s | none => s)

/-- The STROKE_LOST condition after a PHASE entry: it falls when the entry is not of class VIB (R25). -/
def strokeLostAtPhase (p : Phase) (s : State) : State :=
  if p.toClass = .vib then s else signal clsStrokeLost false s

/-- A PHASE in RUNNING: appended to the OPEN cycle's log, or out of order, or one too many (R32). -/
def phaseMarker (p : Phase) (s : State) : State :=
  match s.cycle with
  | none => markerOutOfOrder s
  | some cy =>
    if cy.closingEntry.isSome then markerOutOfOrder s
    else if cy.log.length < Config.phaseEntries then
      strokeLostAtPhase p (s.updCycle fun cy => { cy with log := cy.log ++ [⟨p, s.tick⟩] })
    else markerOutOfOrder (s.updFlags fun f => { f with markerLoss := true })

/-- A CYCLE_END in RUNNING: the OPEN cycle becomes CLOSING and the settle test is made; otherwise it is out of order (R33). -/
def cycleEnd (s : State) : State :=
  match s.cycle with
  | none => markerOutOfOrder s
  | some cy =>
    if cy.closingEntry.isSome then markerOutOfOrder s
    else settleTest (s.updCycle fun cy => { cy with endTick := some s.tick, closingEntry := some s.tick })

end Sys2Proof.Machine
end

