-- ==== Sys2Proof/Machine/Intake.lean ====
section
/-! DEFINITION. The intake, the detectors and the head link receiver (chapters 3 and 4): continuity, channel states, one
sample through detection and floor tracking, an accepted frame, and the routing of head link frames. -/

namespace Sys2Proof.Machine

/-! ### Thresholds and admissibility (R62-R65) -/

/-- The margin of a channel record for a phase class (R5, R64). -/
def ChanRecord.margin (r : ChanRecord) : PhaseClass → Nat
  | .vib => r.marginVib
  | .strip => r.marginStrip
  | .other => r.marginOther

/-- The opening threshold: floor plus margin, held at 4095 (R64). -/
def openingThreshold (floor margin : Nat) : Nat := min Config.sampleMax (floor + margin)

/-- The closing threshold: the opening threshold less hysteresis, held at 0 (R64). -/
def closingThreshold (thrOn hysteresis : Nat) : Nat := thrOn - hysteresis

/-- The record of channel c in the slot in use (R5, R64). -/
def recordInUse (s : State) (c : Chan) : Option ChanRecord := s.slotInUse.bind fun k => s.record? k c

/-- The open cycle and the channel's record that an admissible sample of class cls is judged with: the run state is RUNNING,
a profiled cycle is open, and the sample is IN_WINDOW (R62). -/
def admission (s : State) (c : Chan) (cls : SampleClass) : Option (Cycle × ChanRecord) :=
  if s.run = .running ∧ cls = .inWindow then
    match s.cycle, recordInUse s c with
    | some cy, some r => some (cy, r)
    | _, _ => none
  else none

/-- Sample tick t lies in the dead time: after the close that set it and at or before its end tick (R62). -/
def inDeadTime (d : Option DeadTime) (t : Tick) : Bool :=
  match d with
  | none => false
  | some d => isBefore d.closed t && atOrBefore t d.endTick

/-! ### One sample in the detector (R61-R70) -/

/-- What the detector does with a sample. -/
inductive Judgement where
  /-- No hit is opened: the state is set anew. -/
  | rests (st : DetState)
  /-- A hit opens. -/
  | opens (o : OpenHit)
  /-- The open hit takes the sample. -/
  | extends (o : OpenHit)
  /-- The open hit closes; added tells whether the sample is part of it, as in a LONG close. -/
  | closes (o : OpenHit) (added : Bool)
  /-- A LATE sample finds a hit open, which no run reaches (R63): nothing. -/
  | ignores
  deriving DecidableEq, Repr

/-- The hit that a sample opens (R66). -/
def openHitAt (cy : Cycle) (floor : Nat) (r : ChanRecord) (t : Tick) (v : Nat) : OpenHit :=
  let phase := phaseAt cy.log t
  let thrOn := openingThreshold floor (r.margin phase.toClass)
  { cycle := cy.number
    start := t
    phase := phase
    duration := 1
    peak := v
    peakTick := t
    area := v - floor
    floor := floor
    thrOn := thrOn
    thrOff := closingThreshold thrOn r.hysteresis }

/-- The open hit after a sample at or above its closing threshold (R67). -/
def OpenHit.extend (o : OpenHit) (t : Tick) (v : Nat) : OpenHit :=
  { o with
    duration := o.duration + 1
    area := o.area + (v - o.floor)
    peak := if o.peak < v then v else o.peak
    peakTick := if o.peak < v then t else o.peakTick }

/-- The detector's judgement of a sample (R62, R66-R68, R70). (DEDUCED for the state between samples:
notes/assumptions/10.md.) -/
def judge (s : State) (c : Chan) (cls : SampleClass) (t : Tick) (v : Nat) : Judgement :=
  let ch := s.chan c
  match ch.openHit with
  | some o =>
    if cls = .late then .ignores
    else if v < o.thrOff then .closes o false
    else
      let o' := o.extend t v
      if Config.longDuration ≤ o'.duration then .closes o' true else .extends o'
  | none =>
    match admission s c cls with
    | none => .rests .blocked
    | some (cy, r) =>
      if inDeadTime ch.deadTime t then .rests .dead
      else
        let o := openHitAt cy ch.floor r t v
        if o.thrOn ≤ v then .opens o else .rests .armed

/-- The dead time of channel c's record in the slot in use (R69). -/
def deadTimeOf (s : State) (c : Chan) : Nat :=
  match recordInUse s c with
  | some r => r.deadTime
  | none => 0

/-- The settled tick has advanced: the tests that wait on it are made (R36, R77, R83). -/
def setSigma (c : Chan) (t : Tick) (s : State) : State :=
  let moved := (s.chan c).sigma != some t
  let s := s.updChan c fun ch => { ch with sigma := some t }
  if moved then settledMoved s else s

/-- The judgement takes effect: the detector's state, the settled tick with the tests it prompts, and the hit handed on
before them (R66-R70, R76, R77). (DEDUCED order: notes/assumptions/17.md.) -/
def applyJudgement (c : Chan) (t : Tick) (j : Judgement) (s : State) : State :=
  match j with
  | .ignores => s
  | .rests st => setSigma c t (s.updChan c fun ch => { ch with det := st })
  | .opens o => setSigma c (tickSub t 1) (s.updChan c fun ch => { ch with det := .inHit, openHit := some o })
  | .extends o => s.updChan c fun ch => { ch with openHit := some o }
  | .closes o long =>
    settledMoved
      (handOn (recordOf s c o false long)
        (s.updChan c fun ch =>
          { ch with
            det := .dead
            openHit := none
            deadTime := some ⟨t, tickAdd t (deadTimeOf s c)⟩
            sigma := some t }))

/-- The marks of a frame after a judgement (R78). -/
def FrameMarks.after (m : FrameMarks) : Judgement → FrameMarks
  | .opens _ => { m with hitStarted := true, inHit := true }
  | .extends _ => { m with inHit := true }
  | .closes _ added => { m with inHit := m.inHit || added, hitClosed := true }
  | .rests _ => m
  | .ignores => m

/-- The judgement adds the sample to a hit (R57, R78). -/
def Judgement.adds : Judgement → Bool
  | .opens _ => true
  | .extends _ => true
  | .closes _ added => added
  | .rests _ => false
  | .ignores => false

/-! ### Floor tracking (R56-R58) -/

/-- A floor sample enters the block; a block of 256 samples is complete, and sets the floor when no cycle is open (R57). -/
def Channel.floorSample (idle : Bool) (v : Nat) (ch : Channel) : Channel :=
  let sum := ch.floorSum + v
  if ch.floorCount + 1 < Config.floorBlock then { ch with floorSum := sum, floorCount := ch.floorCount + 1 }
  else { ch with floor := if idle then (sum + 128) / 256 else ch.floor, floorSum := 0, floorCount := 0 }

/-- Floor tracking takes a sample, with its class and whether the detector added it to a hit (R56-R58). -/
def trackFloor (c : Chan) (cls : SampleClass) (v : Nat) (added : Bool) (s : State) : State :=
  if (s.chan c).floorTrack then
    match cls with
    | .late => s
    | .inWindow => s.updChan c fun ch => { ch with floorSum := 0, floorCount := 0 }
    | .outside => if added then s else s.updChan c (Channel.floorSample s.cycle.isNone v)
  else s

/-! ### The samples of a frame (R55) -/

/-- One sample of channel c: classed, taken by the detector, then by floor tracking (R55). (DEDUCED order:
notes/assumptions/11.md.) -/
def takeSample (c : Chan) (t : Tick) (v : Nat) (a : State × FrameMarks) : State × FrameMarks :=
  let cls := sampleClass a.1 t
  let j := judge a.1 c cls t v
  (trackFloor c cls v j.adds (applyJudgement c t j a.1), a.2.after j)

/-- The samples of a frame in index order, the first at tick t (R55). -/
def takeSamples (c : Chan) : List Nat → Tick → State × FrameMarks → State × FrameMarks
  | [], _, a => a
  | v :: vs, t, a => takeSamples c vs (tickAdd t 1) (takeSample c t v a)

/-! ### Breaks of the stream (R49, R53, R71) -/

/-- A gap truncates the open hit of channel c, or with none open arms the detector; sigma is at the last sample taken before
it (R53, R71, R77). (DEDUCED order of the hand-on and the tests: notes/assumptions/17.md.) -/
def truncateAtGap (c : Chan) (s : State) : State :=
  match (s.chan c).openHit with
  | none => s.updChan c fun ch => { ch with det := .armed, deadTime := none }
  | some o => settledMoved (handOn (recordOf s c o true false) (s.updChan c fun ch => ch.disarmed ch.lastTaken))

/-- A LIVE channel goes LOST: its hit is truncated, its zones become blind, the tests are made, and CHANNEL_LOST is judged
(R49, R51, R54, R71, R77, R141). (DEDUCED order: notes/assumptions/12.md.) -/
def loseChannel (c : Chan) (s : State) : State :=
  let ch := s.chan c
  let lost := fun ch : Channel =>
    { ch.disarmed none with intake := .lost, expected := none, lossFrom := none, floorSum := 0, floorCount := 0 }
  let s := joinIfDeaf c s
  let s :=
    match ch.openHit with
    | none => s.updChan c lost
    | some o => handOn (recordOf s c o true false) (s.updChan c fun ch => (lost ch).hitEnded)
  judgeChannelLost (settledMoved s)

/-- The loss timer of channel c is due: it runs and loss_timeout ticks have passed (R49). -/
def lossDue (s : State) (c : Chan) : Bool :=
  s.isLive c &&
    (match (s.chan c).lossFrom with
     | none => false
     | some t => (s.cfg.lossTimeout : Int) ≤ ticksSince s.tick t)

/-- The expiry of channel c's loss timer (R49). Without effect when it is not due. (DESIGN CHOICE: notes/assumptions/5.md.)
-/
def lossTimeout (c : Chan) (s : State) : State := if lossDue s c then loseChannel c s else s

/-! ### Stamp continuity and acceptance (R50, R52, R53) -/

/-- The stamp less the low 16 bits of a LIVE channel's expected tick, modulo 65,536 (R52). -/
def stampGap (ch : Channel) (stamp : Stamp) : Nat :=
  match ch.expected with
  | none => 0
  | some e => (stamp - lowStamp e).toNat

/-- The frame of stamp and extended stamp e is stale for the channel (R52). (DEDUCED reading of the second test:
notes/assumptions/14.md.) -/
def isStale (s : State) (ch : Channel) (stamp : Stamp) (e : Tick) : Bool :=
  atOrBefore s.tick (tickAdd e 15) ||
    (match ch.lastStamp with
     | none => false
     | some l =>
       0 ≤ ticksSince s.tick l && ticksSince s.tick l < (Config.stampReach : Int) && atOrBefore e l) ||
    (ch.intake == .live && 32768 ≤ stampGap ch stamp)

/-- The gap of d samples before an accepted frame of extended stamp e (R53, R54, R71). -/
def takeGap (c : Chan) (d : Nat) (e : Tick) (s : State) : State :=
  let expected := (s.chan c).expected.getD e
  let s := s.countChan c fun k => { k with missing := satAdd Config.max32 k.missing d }
  let s := truncateAtGap c s
  if spanMeetsWindow s expected (tickSub e 1) then joinBlind c s else s

/-- The channel's intake at the acceptance of a frame of extended stamp e (R50, R52). -/
def Channel.accept (now e : Tick) (ch : Channel) : Channel :=
  { ch with
    intake := .live
    expected := some (tickAdd e Config.frameSamples)
    lastStamp := some e
    lossFrom := some now
    cnt := { ch.cnt with framesAccepted := inc32 ch.cnt.framesAccepted } }

/-- An accepted frame processed whole: its gap, its acceptance, its sixteen samples, its forwarding (R50, R53, R55). -/
def acceptFrame (c : Chan) (payload : List Byte) (stamp : Stamp) (e : Tick) (samples : List Nat) (s : State) : State :=
  let ch := s.chan c
  let d := if ch.intake = .live then stampGap ch stamp else 0
  let gap := decide (0 < d)
  let closedByGap := gap && ch.openHit.isSome
  let s := if gap then takeGap c d e s else s
  let s := s.updChan c (Channel.accept s.tick e)
  let s := if ch.intake = .lost then judgeChannelLost s else s
  let a := takeSamples c samples e (s, ⟨false, false, closedByGap⟩)
  forward c payload (gap || ch.intake == .lost) a.2 a.1

/-- A SAMPLE frame of channel c that has passed its CRC check: format, channel state, continuity (R46, R48, R52). -/
def sampleFrame (c : Chan) (payload : List Byte) (s : State) : State :=
  match decodeSamples payload with
  | none => s.countChan c fun k => { k with formatErrors := inc16 k.formatErrors }
  | some (stamp, samples) =>
    if (s.chan c).intake = .off then countMisaddressed s
    else
      let e := extendStamp s.tick stamp
      if isStale s (s.chan c) stamp e then s.countChan c fun k => { k with stale := inc16 k.stale }
      else acceptFrame c payload stamp e samples s

/-! ### The head link receiver (R42-R45) -/

/-- A framing error or a CRC error on the head link: counted, and LINK_ERR judged (R42, R43). -/
def headLinkError (s : State) : State :=
  judgeLinkErr (s.count fun k => { k with headLinkCrc := inc16 k.headLinkCrc })

/-- The channel an address names, 0x00-0x07 (R168). -/
def channelOf (address : Byte) : Option Chan := if h : address.toNat < 8 then some ⟨address.toNat, h⟩ else none

/-- A frame that has passed the head link's CRC check, routed by address and kind (R44). -/
def routeHead (f : SoundFrame) (s : State) : State :=
  if f.kind = kindSample then
    match channelOf f.address with
    | some c => sampleFrame c f.payload s
    | none => countMisaddressed s
  else if f.kind = kindHead ∧ f.address = addressLine then offerRelay f.payload s
  else countMisaddressed s

/-- Bytes received on the head link, at the end of their reception (R42, R43). -/
def receiveHead (bytes : List Byte) (ended : FrameEnd) (s : State) : State :=
  match parseFrame bytes ended with
  | none => headLinkError s
  | some f => routeHead f s

/-- A frame on the head link given by its fields: one whose payload no length byte can hold is a framing error (R42, R168).
(DESIGN CHOICE: notes/assumptions/19.md.) -/
def headFrame (f : SoundFrame) (s : State) : State :=
  if f.payload.length ≤ Config.payloadMax then routeHead f s else headLinkError s

end Sys2Proof.Machine
end

