-- ==== Sys2Proof/Machine/ConfigStore.lean ====
section
/-! DEFINITION. The configuration store (section 9.5, R161, R165): what each SET_CONFIG checks, stores and does, and what
GET_CONFIG returns. A write answers with its status. -/

namespace Sys2Proof.Machine

/-- What a request's execution gives: the status and body of its RESPONSE and the state (R157, R158). -/
structure Answer where
  status : Status
  body : List Byte
  state : State
  deriving DecidableEq, Repr

/-- A request carried out, with no body. -/
def done (s : State) : Answer := ⟨.ok, [], s⟩

/-- A request refused: it changes nothing (R158). -/
def refuse (st : Status) (s : State) : Answer := ⟨st, [], s⟩

/-- The channel that an index or channel byte names, 0-7 (R161, R10). -/
def chanOfByte (b : Byte) : Option Chan := if h : b.toNat < 8 then some ⟨b.toNat, h⟩ else none

/-- The slot that a slot byte names, 0-7 (R1, R10). -/
def slotOfByte (b : Byte) : Option SlotIx := if h : b.toNat < 8 then some ⟨b.toNat, h⟩ else none

/-- The zone that a zone byte names, 0-15 (R10). -/
def zoneOfByte (b : Byte) : Option ZoneIx := if h : b.toNat < 16 then some ⟨b.toNat, h⟩ else none

/-- The fault class that an index byte names, 0-7 (R161). -/
def classOfByte (b : Byte) : Option ClassIx := if h : b.toNat < 8 then some ⟨b.toNat, h⟩ else none

/-- A write to channel index's item, refused BAD_VALUE for an index above 7 (R161). -/
def onChannel (index : Byte) (f : Chan → Answer) (s : State) : Answer :=
  match chanOfByte index with
  | none => refuse .badValue s
  | some c => f c

/-- A write to a class's item, refused BAD_VALUE for a class index of 7 or above (R125, R136, R161). -/
def onClass (index : Byte) (f : ClassIx → Answer) (s : State) : Answer :=
  match classOfByte index with
  | none => refuse .badValue s
  | some k => if k = clsReset then refuse .badValue s else f k

/-! ### channel_enable (R47, R54, R73, R83, R149) -/

/-- Channel c's flag changes from clear to set: OFF becomes WAITING, and its zones become blind while the cycle is OPEN
(R47, R54). -/
def enableChannel (c : Chan) (s : State) : State :=
  let s := s.updChan c fun ch => { ch with intake := .waiting, expected := none, lossFrom := none }
  if s.cycleState = .opened then joinBlind c s else s

/-- The channel OFF: no expected tick, no loss timer, an empty floor block, its hit discarded, no settled tick, its forwarding
stage reset (R47, R73, R77, R149). -/
def Channel.switchOff (ch : Channel) : Channel :=
  let ch := { ch with intake := .off, expected := none, lossFrom := none, floorSum := 0, floorCount := 0, sigma := none }
  let ch := if ch.openHit.isSome then { ch with det := .blocked, openHit := none, deadTime := none } else ch
  ch.resetStage

/-- Channel c's flag changes from set to clear: its zones become blind if it was LIVE and still heard the window, and it goes
OFF; a channel that has left LIVE prompts the tests (R36, R47, R54, R83). -/
def disableChannel (c : Chan) (s : State) : State :=
  let live := s.isLive c
  let s := if live then joinIfDeaf c s else s
  let s := s.updChan c Channel.switchOff
  if live then settledMoved s else s

/-- Channel c at a write of channel_enable whose old value is old (R47). -/
def changeFlag (old : BitVec 8) (c : Chan) (s : State) : State :=
  if s.enabled c then (if old.getLsbD c.val then s else enableChannel c s)
  else if old.getLsbD c.val then disableChannel c s
  else s

/-- A write of channel_enable (R47, R51). -/
def writeChannelEnable (v : Byte) (s : State) : State :=
  let old := s.cfg.channelEnable
  judgeChannelLost (forEach (changeFlag old) allChans (s.configure fun g => { g with channelEnable := v }))

/-! ### The other items -/

/-- A write of a channel's floor_track: on from floor 0 with an empty block, off with the floor at 0 at once; an unchanged
flag changes nothing (R58). -/
def writeFloorTrack (on : Bool) (ch : Channel) : Channel :=
  if ch.floorTrack = on then ch else { ch with floorTrack := on, floor := 0, floorSum := 0, floorCount := 0 }

/-- The policy a value names (section 9.5). -/
def policyOf (v : Byte) : Option Policy :=
  match v.toNat with
  | 0 => some .drop
  | 1 => some .all
  | 2 => some .aroundHits
  | _ => none

/-- A write of a channel's forwarding policy (R149). -/
def writePolicy (p : Policy) (ch : Channel) : Channel := { ch.resetStage with policy := p }

/-- A write of a channel's pre, clamped at 3 (R149). -/
def writePre (v : Nat) (ch : Channel) : Channel := Channel.trimQueue (min 3 v) { ch with pre := min 3 v }

/-- A write of a channel's post, clamped at 15 (R149). -/
def writePost (v : Nat) (ch : Channel) : Channel :=
  { ch with post := min 15 v, postRemaining := min ch.postRemaining (min 15 v) }

/-- A write of loss_timeout: every LIVE channel that has passed the new value becomes LOST (R49). -/
def writeLossTimeout (v : Nat) (s : State) : State :=
  forEach lossTimeout allChans (s.configure fun g => { g with lossTimeout := v })

/-- A write of a stroke limit empties the stroke history and keeps the last accepted stroke tick (R23). (DEDUCED that
STROKE_LOST stays: notes/assumptions/9.md.) -/
def writeStrokeLimits (lo hi : Nat) (s : State) : State :=
  { s.configure (fun g => { g with strokeMin := lo, strokeMax := hi }) with strokes := [] }

/-- The stroke limits are in range and in order (R23). -/
def strokeLimitsOk (v lo hi : Nat) : Bool := 100 ≤ v && v ≤ 10000 && lo < hi

/-- A write of pair_span: the resolution test and the settle test are made with the new value (R36, R83, R85). -/
def writePairSpan (v : Nat) (s : State) : State := settledMoved (s.configure fun g => { g with pairSpan := min 127 v })

/-- A write of max_cycle_ticks applies to the OPEN cycle at once (R35). -/
def writeMaxCycleTicks (v : Nat) (s : State) : State := cycleTimeout (s.configure fun g => { g with maxCycleTicks := v })

/-- A write of settle_timeout applies to the CLOSING cycle at once (R37). -/
def writeSettleTimeout (v : Nat) (s : State) : State :=
  settleTimeout (s.configure fun g => { g with settleTimeout := v })

/-- A write of hold_ms: 0 stops a running hold timer (R129). -/
def writeHoldMs (v : Nat) (s : State) : State :=
  { s.configure (fun g => { g with holdMs := v }) with holdExpiry := if v = 0 then none else s.holdExpiry }

/-- The action code a value names, 0-4 (R8, R125). -/
def actionOf (v : Nat) : Option ActionCode :=
  match v with
  | 0 => some .none
  | 1 => some .alert
  | 2 => some .reject
  | 3 => some .holdAtEnd
  | 4 => some .holdNow
  | _ => none

/-- The value of an action code (R8). -/
def ActionCode.number : ActionCode → Nat
  | .none => 0
  | .alert => 1
  | .reject => 2
  | .holdAtEnd => 3
  | .holdNow => 4

/-- A write refused BAD_VALUE unless ok holds (R161, check 2). -/
def checked (ok : Bool) (s : State) (t : State) : Answer := if ok then done t else refuse .badValue s

/-- A SET_CONFIG: the index, then the value, then the write with all it causes (R161, R165). -/
def setConfig (w : ConfigWrite) (s : State) : Answer :=
  match w with
  | .channelEnable _ v => done (writeChannelEnable v s)
  | .floorTrack i v => onChannel i (fun c => done (s.updChan c (writeFloorTrack (v != 0)))) s
  | .forwardingPolicy i v =>
    onChannel i
      (fun c =>
        match policyOf v with
        | none => refuse .badValue s
        | some p => done (s.updChan c (writePolicy p)))
      s
  | .pre i v => onChannel i (fun c => done (s.updChan c (writePre v.toNat))) s
  | .post i v => onChannel i (fun c => done (s.updChan c (writePost v.toNat))) s
  | .lossTimeout _ v => checked (16 ≤ v.toNat) s (writeLossTimeout v.toNat s)
  | .strokeMin _ v =>
    checked (strokeLimitsOk v.toNat v.toNat s.cfg.strokeMax) s (writeStrokeLimits v.toNat s.cfg.strokeMax s)
  | .strokeMax _ v =>
    checked (strokeLimitsOk v.toNat s.cfg.strokeMin v.toNat) s (writeStrokeLimits s.cfg.strokeMin v.toNat s)
  | .pairSpan _ v => checked (v != 0) s (writePairSpan v.toNat s)
  | .maxCycleTicks _ v => checked (50000 ≤ v.toNat) s (writeMaxCycleTicks v.toNat s)
  | .settleTimeout _ v => checked (1000 ≤ v.toNat) s (writeSettleTimeout v.toNat s)
  | .eventReports _ v => done (s.configure fun g => { g with eventReports := v != 0 })
  | .linkErrLimit _ v => checked (v != 0) s (judgeLinkErr (s.configure fun g => { g with linkErrLimit := v.toNat }))
  | .classMask i v => onClass i (fun k => done (s.setClass k { s.classes[k] with masked := v != 0 })) s
  | .classAction i v =>
    onClass i
      (fun k =>
        match actionOf v.toNat with
        | none => refuse .badValue s
        | some a => done (s.setClass k { s.classes[k] with action := a }))
      s
  | .holdMs _ v => done (writeHoldMs v.toNat s)
  | .rejectMs _ v =>
    checked (v.toNat ≤ 255) s (s.configure fun g => { g with rejectMs := max 1 v.toNat })

/-! ### GET_CONFIG (R161) -/

/-- The policy's value (section 9.5). -/
def Policy.number : Policy → Nat
  | .drop => 0
  | .all => 1
  | .aroundHits => 2

/-- An on-off value as 0 or 1 (section 9.5). -/
def flagByte (b : Bool) : List Byte := [if b then 1 else 0]

/-- The body of a channel's item, refused BAD_VALUE for an index above 7 (R161). -/
def getChannel (index : Byte) (f : Channel → List Byte) (s : State) : Answer :=
  match chanOfByte index with
  | none => refuse .badValue s
  | some c => ⟨.ok, f (s.chan c), s⟩

/-- The body of a class's item, refused BAD_VALUE for a class index above 7 (R161). -/
def getClass (index : Byte) (f : FaultClass → List Byte) (s : State) : Answer :=
  match classOfByte index with
  | none => refuse .badValue s
  | some k => ⟨.ok, f s.classes[k], s⟩

/-- A GET_CONFIG: the value in force in the item's width (R161). -/
def getConfig (item : ConfigItem) (index : Byte) (s : State) : Answer :=
  match item with
  | .channelEnable => ⟨.ok, [s.cfg.channelEnable], s⟩
  | .floorTrack => getChannel index (fun ch => flagByte ch.floorTrack) s
  | .forwardingPolicy => getChannel index (fun ch => nat8 ch.policy.number) s
  | .pre => getChannel index (fun ch => nat8 ch.pre) s
  | .post => getChannel index (fun ch => nat8 ch.post) s
  | .lossTimeout => ⟨.ok, nat16 s.cfg.lossTimeout, s⟩
  | .strokeMin => ⟨.ok, nat16 s.cfg.strokeMin, s⟩
  | .strokeMax => ⟨.ok, nat16 s.cfg.strokeMax, s⟩
  | .pairSpan => ⟨.ok, nat8 s.cfg.pairSpan, s⟩
  | .maxCycleTicks => ⟨.ok, nat24 s.cfg.maxCycleTicks, s⟩
  | .settleTimeout => ⟨.ok, nat16 s.cfg.settleTimeout, s⟩
  | .eventReports => ⟨.ok, flagByte s.cfg.eventReports, s⟩
  | .linkErrLimit => ⟨.ok, nat8 s.cfg.linkErrLimit, s⟩
  | .classMask => getClass index (fun k => flagByte k.masked) s
  | .classAction => getClass index (fun k => nat8 k.action.number) s
  | .holdMs => ⟨.ok, nat16 s.cfg.holdMs, s⟩
  | .rejectMs => ⟨.ok, nat16 s.cfg.rejectMs, s⟩

end Sys2Proof.Machine
end

