-- ==== Sys2Proof/Machine/MouldTable.lean ====
section
/-! DEFINITION. The load rules of the mould table (chapter 1): the checks of R10 in their order, the writes R11-R15 and the
reads R16, R162 with the record layouts of R172. -/

namespace Sys2Proof.Machine

/-- The type a WRITE_ZONE carries (R13, R172): UNDEFINED, a checked definition, or values that R13 refuses. -/
inductive ZoneWrite where
  | undefined
  | define (d : ZoneDef)
  | bad
  deriving DecidableEq, Repr

/-- The zone kind that the fields give, with R13's checks of the channels and of the window (R6, R13). -/
def zoneKindOf (f : ZoneFields) : Option ZoneKind :=
  match chanOfByte (f.chX.setWidth 8) with
  | none => none
  | some x =>
    if f.kind = 1 then
      match chanOfByte (f.chY.setWidth 8) with
      | none => none
      | some y =>
        if y ≠ x ∧ -127 ≤ f.dmin.toInt ∧ f.dmin.toInt ≤ f.dmax.toInt then
          some (.pair x y f.dmin.toInt f.dmax.toInt)
        else none
    else if f.kind = 2 then some (.single x)
    else none

/-- R13's checks of the fields other than the kind's (R6, R13, R172). The widths of the fields settle min_area, area_shift,
the upper end of leak_shift and of the levels. -/
def zoneFieldsOk (f : ZoneFields) : Bool :=
  f.spare = 0 && f.phaseMask.extractLsb' 6 2 = 0 && f.minArea.toNat ≤ 2097151 && f.countLimit != 0 && f.leakShift != 0 &&
    (1 ≤ f.watchLevel.toNat && f.watchLevel.toNat ≤ 65534) && f.watchHyst.toNat ≤ f.watchLevel.toNat &&
    f.watchLevel.toNat < f.tripLevel.toNat && (1 ≤ f.tripCycles.toNat && f.tripCycles.toNat ≤ 8)

/-- The zone that a WRITE_ZONE's fields define (R13, R172). -/
def zoneWriteOf (f : ZoneFields) : ZoneWrite :=
  if f.kind = 0 then .undefined
  else
    match zoneKindOf f, actionOf f.watchCode.toNat, actionOf f.crackCode.toNat with
    | some k, some wa, some ca =>
      if zoneFieldsOk f then
        .define
          { kind := k
            phaseMask := f.phaseMask.setWidth 6
            gateLo := f.gateLo.toNat
            gateHi := f.gateHi.toNat
            requirePhase := f.requirePhase = 1
            minArea := f.minArea.toNat
            countLimit := f.countLimit.toNat
            areaShift := f.areaShift.toNat
            leakShift := f.leakShift.toNat
            watchLevel := f.watchLevel.toNat
            watchHyst := f.watchHyst.toNat
            tripLevel := f.tripLevel.toNat
            tripCycles := f.tripCycles.toNat
            watchAction := ⟨wa, f.watchRepeat = 1⟩
            crackAction := ⟨ca, f.crackRepeat = 1⟩ }
      else .bad
    | _, _, _ => .bad

/-- The record that a WRITE_CHANNEL's fields give, in range (R5, R12). -/
def recordOfFields (f : ChannelFields) : Option ChanRecord :=
  if f.marginVib.toNat ≤ Config.sampleMax ∧ f.marginStrip.toNat ≤ Config.sampleMax ∧
      f.marginOther.toNat ≤ Config.sampleMax ∧ f.hysteresis.toNat ≤ 1023
  then
    some
      { marginVib := f.marginVib.toNat
        marginStrip := f.marginStrip.toNat
        marginOther := f.marginOther.toNat
        hysteresis := f.hysteresis.toNat
        deadTime := f.deadTime.toNat }
  else none

/-! ### The writes (R11-R15) -/

/-- A zone is CRACK. -/
def isCrack (r : Option Zone) : Bool :=
  match r with
  | some z => z.rt.state == .crack
  | none => false

/-- Some zone of the profile is CRACK (R10). -/
def anyCrack (p : Profile) : Bool := allZones.any fun z => isCrack p.zones[z]

/-- The mould ID is one a slot may hold (R2). -/
def mouldIdOk (m : MouldId) : Bool := m != 0 && m != 0xFFFF

/-- Another DEFINED slot than k holds the ID (R2, R10). -/
def heldElsewhere (s : State) (k : SlotIx) (m : MouldId) : Bool :=
  allSlots.any fun j => j != k && (match (s.slot j).profile with | some p => p.mouldId == m | none => false)

/-- The latch check of a header write: the ID differs from the slot's and some zone is CRACK (R10, R11). -/
def headerLatched (sl : Slot) (m : MouldId) : Bool :=
  match sl.profile with
  | none => false
  | some p => p.mouldId != m && anyCrack p

/-- A runtime reset of a zone record unless it is CRACK or UNDEFINED (R9, R11). -/
def resetUncracked (r : Option Zone) : Option Zone :=
  if isCrack r then r else r.map fun z => { z with rt := Runtime.fresh }

/-- A header write's effect on a slot (R11). -/
def headerWritten (m : MouldId) (sl : Slot) : Slot :=
  match sl.profile with
  | none =>
    { sl with
      profile := some
        { mouldId := m
          cycleCount := 0
          records := Vector.replicate 8 ChanRecord.defaults
          zones := Vector.replicate 16 none } }
  | some p =>
    { sl with
      profile := some
        { p with
          mouldId := m
          cycleCount := 0
          zones := Vector.ofFn fun z : ZoneIx => resetUncracked p.zones[z] } }

/-- WRITE_SLOT_HEADER (R10, R11). -/
def writeSlotHeader (slot : Byte) (m : MouldId) (s : State) : Answer :=
  match slotOfByte slot with
  | none => refuse .badValue s
  | some k =>
    if !mouldIdOk m then refuse .badValue s
    else if (s.slot k).inUse then refuse .inUse s
    else if headerLatched (s.slot k) m then refuse .zoneLatched s
    else if heldElsewhere s k m then refuse .duplicateId s
    else done (s.updSlot k (headerWritten m))

/-- WRITE_CHANNEL (R10, R12). -/
def writeChannel (slot channel : Byte) (f : ChannelFields) (s : State) : Answer :=
  match slotOfByte slot, chanOfByte channel with
  | some k, some c =>
    if (s.slot k).profile.isNone then refuse .noSlot s
    else if (s.slot k).inUse then refuse .inUse s
    else
      match recordOfFields f with
      | none => refuse .badValue s
      | some r => done (s.updProfile k fun p => { p with records := p.records.set c r })
  | _, _ => refuse .badValue s

/-- WRITE_ZONE (R10, R13). -/
def writeZone (slot zone : Byte) (f : ZoneFields) (s : State) : Answer :=
  match slotOfByte slot, zoneOfByte zone with
  | some k, some z =>
    if (s.slot k).profile.isNone then refuse .noSlot s
    else if (s.slot k).inUse then refuse .inUse s
    else if isCrack (s.zone? k z) then refuse .zoneLatched s
    else
      match zoneWriteOf f with
      | .bad => refuse .badValue s
      | .undefined => done (s.setZone k z none)
      | .define d => done (s.setZone k z (some ⟨d, Runtime.fresh⟩))
  | _, _ => refuse .badValue s

/-- CLEAR_SLOT (R10, R14). -/
def clearSlot (slot : Byte) (s : State) : Answer :=
  match slotOfByte slot with
  | none => refuse .badValue s
  | some k =>
    if (s.slot k).inUse then refuse .inUse s else done (s.updSlot k fun sl => { sl with profile := none })

/-- An acknowledgement's effect on a runtime (R15). -/
def Runtime.acknowledged (r : Runtime) : Runtime :=
  { r with
    state := if r.state = .crack then .clear else r.state
    evidence := 0
    count := 0
    crackCycle := if r.state = .crack then none else r.crackCycle }

/-- ACK_ZONE (R10, R15). -/
def ackZone (slot zone : Byte) (s : State) : Answer :=
  match slotOfByte slot, zoneOfByte zone with
  | some k, some z =>
    if (s.slot k).profile.isNone then refuse .noSlot s
    else
      match s.zone? k z with
      | none => refuse .badValue s
      | some r => done (s.setZone k z (some { r with rt := r.rt.acknowledged }))
  | _, _ => refuse .badValue s

/-! ### The record layouts (R172) -/

/-- A channel record, 9 bytes (R172). -/
def ChanRecord.bytes (r : ChanRecord) : List Byte :=
  nat16 r.marginVib ++ nat16 r.marginStrip ++ nat16 r.marginOther ++ nat16 r.hysteresis ++ nat8 r.deadTime

/-- A zone state's value (R172). -/
def ZoneState.number : ZoneState → Nat
  | .clear => 0
  | .watch => 1
  | .crack => 2

/-- A flag's value in a bit. -/
def bit (b : Bool) : Nat := if b then 1 else 0

/-- The first four bytes of a zone record: type, trip_cycles, require_phase, channels and window; ch_y, dmin and dmax are 0 in
a SINGLE zone (R172). -/
def zoneHeadBytes (d : ZoneDef) : List Byte :=
  match d.kind with
  | .pair x y lo hi =>
    nat8 (1 + 4 * d.tripCycles + 128 * bit d.requirePhase) ++ nat8 (16 * x.val + y.val) ++ int8 lo ++ int8 hi
  | .single x => nat8 (2 + 4 * d.tripCycles + 128 * bit d.requirePhase) ++ nat8 (16 * x.val) ++ [0, 0]

/-- The definition of a zone record, 19 bytes (R172). -/
def ZoneDef.bytes (d : ZoneDef) : List Byte :=
  zoneHeadBytes d ++ [d.phaseMask.setWidth 8] ++ nat8 d.gateLo ++ nat8 d.gateHi ++ nat24 d.minArea ++ nat8 d.countLimit ++
    nat8 (16 * d.areaShift + d.leakShift) ++ nat16 d.watchLevel ++ nat16 d.watchHyst ++ nat16 d.tripLevel ++
    nat8 (d.watchAction.code.number + 8 * bit d.watchAction.repeats + 16 * d.crackAction.code.number +
      128 * bit d.crackAction.repeats)

/-- The runtime of a zone record, 11 bytes; an absent cycle number is 0 with its presence bit clear (R172). -/
def Runtime.bytes (r : Runtime) : List Byte :=
  nat8 (r.state.number + 4 * r.count + 64 * bit r.crackCycle.isSome + 128 * bit r.lastCycle.isSome) ++
    nat16 r.evidence ++ bytes32 (r.crackCycle.getD 0) ++ bytes32 (r.lastCycle.getD 0)

/-- A zone record, 30 bytes; an UNDEFINED zone is 30 bytes of 0 (R16, R172). -/
def zoneBytes (r : Option Zone) : List Byte :=
  match r with
  | none => List.replicate 30 0
  | some z => z.defn.bytes ++ z.rt.bytes

/-! ### The reads (R16, R162) -/

/-- The body of READ_SLOT, 80 bytes; an EMPTY slot reads as zero (R16, R172). -/
def slotBody (sl : Slot) : List Byte :=
  match sl.profile with
  | none => [0] ++ flagByte sl.inUse ++ List.replicate 78 0
  | some p =>
    [1] ++ flagByte sl.inUse ++ bytes16 p.mouldId ++ nat32 p.cycleCount ++
      (allChans.map fun c => (p.records[c]).bytes).flatten

/-- READ_SLOT (R16). -/
def readSlot (slot : Byte) (s : State) : Answer :=
  match slotOfByte slot with
  | none => refuse .badValue s
  | some k => ⟨.ok, slotBody (s.slot k), s⟩

/-- The last zone of the range that READ_ZONES returns (R162). -/
def rangeLast (first last : Nat) : Nat := min (first + 7) (max first (min 15 last))

/-- The zones of a range in index order (R162). -/
def zoneRange (first last : Nat) : List ZoneIx := allZones.filter fun z => first ≤ z.val && z.val ≤ last

/-- READ_ZONES (R16, R162). -/
def readZones (slot first last : Byte) (s : State) : Answer :=
  match slotOfByte slot, zoneOfByte first with
  | some k, some z =>
    match (s.slot k).profile with
    | none => refuse .noSlot s
    | some p =>
      let range := zoneRange z.val (rangeLast z.val last.toNat)
      ⟨.ok, nat8 range.length ++ (range.map fun z => zoneBytes p.zones[z]).flatten, s⟩
  | _, _ => refuse .badValue s

end Sys2Proof.Machine
end

