-- ==== Sys2Proof/Machine/Reset.lean ====
section
/-! DEFINITION. The three kinds of reset: power-on, pin and RESTART (R17, R41, R60, R79, R98, R120, R137, R151, R164, R165,
R167). -/

namespace Sys2Proof.Machine

/-- Power-on reset: every block at its power-on values. The commands that wait stay (they are not the part's). (DEDUCED that
nRST is high: notes/assumptions/7.md.) -/
def powerOnReset (s : State) : State := { State.reset with pending := s.pending }

/-- Pin reset: nRST goes low and every block takes its pin-reset values, which hold until it is released. -/
def pinReset (s : State) : State := { State.reset with pending := s.pending, nrstLow := true }

/-- Release of nRST: the tick counter may count from 0 (R18, R19). -/
def nrstRelease (s : State) : State := { s with nrstLow := false }

/-- A rising edge of TICK: the tick counter advances by one, and is held at 0 while nRST is low (R18, R19). (DESIGN CHOICE,
no expiry within it: notes/assumptions/5.md.) -/
def tickEdge (s : State) : State := { s with tick := s.tick + 1 }

/-- A channel at RESTART (R60, R79, R140, R151). The flag tells whether the channel is enabled. -/
def Channel.restarted (enabled : Bool) (ch : Channel) : Channel :=
  { Channel.trimQueue 0 ch with
    intake := if enabled then .waiting else .off
    expected := none
    lossFrom := none
    floor := 0
    floorSum := 0
    floorCount := 0
    det := .blocked
    openHit := none
    deadTime := none
    sigma := none
    postRemaining := 0 }

/-- Channel c at RESTART, with drop owed set if the sample lane held a frame of it (R151). -/
def restartChannel (lane : List SampleOut) (c : Chan) (s : State) : State :=
  let enabled := s.enabled c
  s.updChan c fun ch =>
    { ch.restarted enabled with dropOwed := ch.dropOwed || lane.any fun f => f.chan == c }

/-- A control lane frame is a CYCLE frame. -/
def ControlFrame.isCycle : ControlFrame → Bool
  | .cycle _ => true
  | _ => false

/-- Egress at RESTART: the lanes emptied with the held entry, the report lost mark set if the control lane held a CYCLE frame,
FLOWING (R151). -/
def restartLanes (s : State) : State :=
  { s with
    controlLane := []
    held := false
    sampleLane := []
    reportLost := s.reportLost || s.controlLane.any ControlFrame.isCycle
    paused := false }

/-- The condition of class k at RESTART: CHANNEL_LOST and STROKE_LOST false, LINK_ERR judged against the kept counter, no
momentary condition (R137). -/
def restartCond (s : State) (k : ClassIx) : Bool := if k = clsLinkErr then linkErrDue s else false

/-- Class k at RESTART: its condition judged, its forced bit clear, its sticky bit, mask and action kept, and RESET sticky
(R137). -/
def restartClass (k : ClassIx) (s : State) : State :=
  s.setClass k
    { s.classes[k] with cond := restartCond s k, forced := false, sticky := s.classes[k].sticky || k == clsReset }

/-- The alert at RESTART: cleared but for the changed bits of RESET and of every class that fell, SENDING while an ALERT
transmission is in progress (R135, R137). -/
def restartAlert (fell : BitVec 8) (s : State) : State :=
  let news : AlertNews := { changed := fell ||| classBit clsReset, zoneAlerts := 0, lastZone := none }
  { s with
    news := news
    newsSince := news
    alert := match s.tx with
      | some (.alert _) => .sending
      | _ => .idle
    rePend := false }

/-- The cycle controller, stroke timer and assembler at RESTART (R17, R41, R98). -/
def restartCore (s : State) : State :=
  forEach (fun k s => s.markSlot k false) allSlots
    { s with strokes := [], lastStroke := none, run := .stopped, hits := [] }

/-- RESTART (R164): the open cycle is abandoned, then every block takes its RESTART values. live is the live bits before it.
The changed bits are cleared first (R137), so those found after the abandonment are of the classes that fell in it: STROKE_LOST,
and OVERFLOW, which rises and falls when the report is lost (R122, R145). (DEDUCED reading of the classes that fell:
notes/assumptions/15.md.) -/
def restart (s : State) : State :=
  let live := s.classBits FaultClass.live
  let s := abandonCycle { s with run := .stopped, news := .none }
  let abandoned := s.news.changed
  let s := restartCore s
  let s := forEach (restartChannel s.sampleLane) allChans s
  let s := restartLanes s
  let s := forEach restartClass allClasses s
  restartAlert (abandoned ||| (live &&& ~~~(s.classBits FaultClass.live))) s

end Sys2Proof.Machine
end

