-- ==== Sys2Proof/Machine/Management.lean ====
section
/-! DEFINITION. Management (chapter 9) and the test requests (chapter 11): the effect and the response of every request, the
request queue and its executions, and the line link receiver. -/

namespace Sys2Proof.Machine

/-! ### READ_STATUS and READ_COUNTERS (R159, R160, R172) -/

/-- The run state's value (R172). -/
def RunState.number : RunState → Nat
  | .stopped => 0
  | .running => 1

/-- The cycle state's value (R172). -/
def CycleState.number : CycleState → Nat
  | .idle => 0
  | .opened => 1
  | .closing => 2

/-- The intake state's value (R172). -/
def IntakeState.number : IntakeState → Nat
  | .off => 0
  | .waiting => 1
  | .live => 2
  | .lost => 3

/-- The slot byte of an open cycle: 0xFF when it is unprofiled or no cycle is open (R159, R173). -/
def slotByte (k : Option SlotIx) : Byte :=
  match k with
  | none => 0xFF
  | some k => BitVec.ofNat 8 k.val

/-- The channel states, two bits per channel (R172). -/
def channelStates (s : State) : Nat :=
  allChans.foldl (fun n c => n + (s.chan c).intake.number * 4 ^ c.val) 0

/-- The READ_STATUS body, 16 bytes (R159, R172). -/
def statusBody (s : State) : List Byte :=
  nat8 s.run.number ++ nat8 s.cycleState.number ++
    (match s.cycle with | none => bytes32 0 | some cy => bytes32 cy.number) ++
    [slotByte s.slotInUse, s.classBits FaultClass.live, s.classBits (·.sticky), s.classBits (·.forced)] ++
    flagByte s.holdLine ++ nat8 s.holdSet.length ++ nat16 (channelStates s) ++ nat8 s.sampleLane.length ++
    nat8 s.controlFill

/-- The sticky bit of class k is cleared unless the class is live (R124). -/
def clearSticky (k : ClassIx) (s : State) : State :=
  s.setClass k { s.classes[k] with sticky := s.classes[k].sticky && (s.classes[k]).live }

/-- READ_STATUS: the body, then the clear of the sticky bits (R124, R159). -/
def readStatus (s : State) : Answer := ⟨.ok, statusBody s, forEach clearSticky allClasses s⟩

/-- A channel's counters, 24 bytes (R172). -/
def ChanCounters.bytes (k : ChanCounters) : List Byte :=
  nat32 k.framesAccepted ++ nat16 k.formatErrors ++ nat16 k.stale ++ nat32 k.missing ++ nat32 k.hitsClosed ++
    nat32 k.hitsTruncated ++ nat32 k.forwardedDrops

/-- The part's counters, 24 bytes (R172). -/
def PartCounters.bytes (k : PartCounters) : List Byte :=
  nat16 k.headLinkCrc ++ nat16 k.lineLinkCrc ++ nat16 k.misaddressed ++ nat32 k.eventDrops ++ nat16 k.headRelayDrops ++
    nat16 k.reportsLost ++ nat16 k.requestsDropped ++ nat16 k.markersOutOfOrder ++ nat16 k.strokeBounces ++
    nat32 k.earlyResolutions

/-- The READ_COUNTERS body, 216 bytes (R160, R172). -/
def countersBody (s : State) : List Byte :=
  (allChans.map fun c => (s.chan c).cnt.bytes).flatten ++ s.cnt.bytes

/-- Every counter of the set becomes 0 (R160, R166). -/
def clearCounters (s : State) : State :=
  forEach (fun c s => s.countChan c fun _ => .zero) allChans (s.count fun _ => .zero)

/-- READ_COUNTERS: the body, and with the flag 1 the clear, which judges LINK_ERR again (R43, R160, R166). -/
def readCounters (flag : Byte) (s : State) : Answer :=
  if flag = 0 then ⟨.ok, countersBody s, s⟩
  else if flag = 1 then ⟨.ok, countersBody s, judgeLinkErr (clearCounters s)⟩
  else refuse .badValue s

/-! ### START and STOP (R26, R163) -/

/-- START (R26). -/
def startRun (s : State) : State := { s with run := .running }

/-- STOP: the run state is STOPPED, and an open cycle is abandoned (R26, R39). -/
def stopRun (s : State) : State := abandonCycle { s with run := .stopped }

/-! ### RELEASE_HOLD (R130) -/

/-- Everything is released: both sets are emptied and the hold timer stops (R130); so it is at the timer's expiry (R129). -/
def releaseAll (s : State) : State := { s with holdSet := [], pendingHold := [], holdExpiry := none }

/-- One identifier is released; the timer stops when the hold reason set is empty (R130). -/
def releaseOne (id : Nat) (s : State) : State :=
  let rest := s.holdSet.filter (· != id)
  { s with
    holdSet := rest
    pendingHold := s.pendingHold.filter (· != id)
    holdExpiry := if rest.isEmpty then none else s.holdExpiry }

/-- RELEASE_HOLD (R130, R171). -/
def releaseHold (flag id : Byte) (s : State) : Answer :=
  if flag = 1 then done (releaseAll s)
  else if flag = 0 then
    if id.toNat ≤ 135 then done (releaseOne id.toNat s) else refuse .badValue s
  else refuse .badValue s

/-- The hold timer expires when it is due (R129). (DESIGN CHOICE: notes/assumptions/5.md.) -/
def holdTimerExpiry (s : State) : State :=
  match s.holdExpiry with
  | none => s
  | some e => if atOrBefore e s.tick then releaseAll s else s

/-- The reject timer expires when it is due, and REJECT goes low (R132). (DESIGN CHOICE: notes/assumptions/5.md.) -/
def rejectTimerExpiry (s : State) : State :=
  match s.rejectExpiry with
  | none => s
  | some e => if atOrBefore e s.tick then { s with rejectExpiry := none } else s

/-! ### INJECT_HIT (R175, R176) -/

/-- The record that an INJECT_HIT of the open cycle forms (R176). -/
def injectedHit (s : State) (cy : Cycle) (c : Chan) (start : Tick) (duration peak area : Nat) : Hit where
  chan := c
  cycle := cy.number
  start := start
  duration := duration
  peak := peak
  rise := 0
  area := area
  phase := phaseAt cy.log start
  angle := angleAt s start
  truncated := false
  long := false
  injected := true

/-- INJECT_HIT: its checks in order, then the hit joins the pending list (R79, R175, R176). -/
def injectHit (channel offset duration : Byte) (peak : BitVec 16) (area : BitVec 24) (s : State) : Answer :=
  match chanOfByte channel with
  | none => refuse .badValue s
  | some c =>
    if duration = 0 ∨ Config.sampleMax < peak.toNat ∨ duration.toNat * Config.sampleMax < area.toNat then
      refuse .badValue s
    else if s.cycleState ≠ .opened then refuse .notOpen s
    else
      match s.cycle, (if s.isLive c then (s.chan c).sigma else none) with
      | some cy, some g =>
        let start := tickSub g offset.toNat
        if isBefore start cy.startTick then refuse .notOpen s
        else done (handOn (injectedHit s cy c start duration.toNat peak.toNat area.toNat) s)
      | _, _ => refuse .notOpen s

/-! ### FORCE_FAULT (R177) -/

/-- FORCE_FAULT: each class's forced bit becomes its bit of the mask, with the rises and falls (R177). -/
def forceFault (mask : Byte) (s : State) : State := forEach (fun k s => setForced k (mask.getLsbD k.val) s) allClasses s

/-! ### Execution (R157, R158) -/

/-- What the execution of a request does and answers (R158-R164, R175-R177). -/
def perform (r : Request) (s : State) : Answer :=
  match r with
  | .malformed _ => refuse .badRequest s
  | .readStatus => readStatus s
  | .readCounters flag => readCounters flag s
  | .setConfig w => setConfig w s
  | .getConfig item i => getConfig item i s
  | .writeSlotHeader slot m => writeSlotHeader slot m s
  | .writeChannel slot ch f => writeChannel slot ch f s
  | .writeZone slot z f => writeZone slot z f s
  | .clearSlot slot => clearSlot slot s
  | .ackZone slot z => ackZone slot z s
  | .readSlot slot => readSlot slot s
  | .readZones slot first last => readZones slot first last s
  | .start => done (startRun s)
  | .stop => done (stopRun s)
  | .releaseHold flag id => releaseHold flag id s
  | .injectHit ch off dur peak area => injectHit ch off dur peak area s
  | .forceFault mask => done (forceFault mask s)
  | .restart => done (restart s)

/-- The RESPONSE of an execution (R158). -/
def responseOf (r : TaggedRequest) (a : Answer) : Response := ⟨r.tag, r.req.code, a.status, a.body⟩

/-- Execution of a request taken from the queue: an entry is held, the request is carried out, and its RESPONSE fills the held
entry; the arbiter's choice waits for the end (R144, R146, R157). It is made there before management's next take. (DESIGN CHOICE of
that order: notes/assumptions/30.md.) -/
def execute (r : TaggedRequest) (s : State) : State :=
  let a := perform r.req { s with held := true, deferred := true }
  arbitrate
    { a.state with
      held := false
      deferred := false
      controlLane := a.state.controlLane ++ [.response (responseOf r a)] }

/-- Management's test, up to n times: while a request waits and an entry is free, the oldest is taken and executed (R157). -/
def serve : Nat → State → State
  | 0, s => s
  | n + 1, s =>
    match s.requests with
    | [] => s
    | r :: rest => if 1 ≤ s.controlFree then serve n (execute r { s with requests := rest }) else s

/-- Management's test on one occasion (R157). (DEDUCED occasions: notes/assumptions/18.md.) -/
def serveRequests (s : State) : State := serve s.requests.length s

/-- A REQUEST frame arrives: it joins the queue, or is dropped and counted when four wait; then management's test is made
(R156, R157). (DESIGN CHOICE: notes/assumptions/2.md, notes/assumptions/16.md.) -/
def arriveRequest (r : TaggedRequest) (s : State) : State :=
  if s.requests.length < Config.requestCapacity then serveRequests { s with requests := s.requests ++ [r] }
  else raise clsOverflow (s.count fun k => { k with requestsDropped := inc16 k.requestsDropped })

/-- The arbiter's choice, and management's test at the start of a control lane frame (R146, R157). -/
def chooseAndServe (s : State) : State := serveRequests (arbitrate s)

/-- The PAUSE link symbol (R148). -/
def pause (s : State) : State := { s with paused := true }

/-- The RESUME link symbol, at which the arbiter chooses (R148). -/
def resume (s : State) : State := chooseAndServe { s with paused := false }

/-- The frame on the line link is complete, and the arbiter chooses (R135, R146). Without effect when the transmitter is
IDLE. (DESIGN CHOICE for IDLE: notes/assumptions/24.md.) -/
def lineTxDone (s : State) : State :=
  match s.tx with
  | none => s
  | some _ => chooseAndServe (txComplete s)

/-- The frame on the head link is complete, and the next head-bound frame starts (R155). -/
def headTxDone (s : State) : State := headTxChoose { s with headTx := none }

/-! ### The line link receiver (R152, R153) -/

/-- A well-formed marker is taken at its arrival (R27). -/
def takeMarker (m : Marker) (s : State) : State :=
  match m with
  | .cycleStart mould number => inRunning (cycleStart mould number) s
  | .phase p => inRunning (phaseMarker (Phase.ofMarker p)) s
  | .cycleEnd => inRunning cycleEnd s

/-- The payload of a MARKER to 0x20: a marker, or a format error, which is counted as misaddressed (R27). -/
def arriveMarker (payload : List Byte) (s : State) : State :=
  match parseMarker payload with
  | none => countMisaddressed s
  | some m => takeMarker m s

/-- A framing error or a CRC error on the line link: counted (R152). -/
def lineLinkError (s : State) : State := s.count fun k => { k with lineLinkCrc := inc16 k.lineLinkCrc }

/-- The head an address names, 0x10-0x13 (R168). -/
def headOf (address : Byte) : Option (Fin 4) :=
  if h : address.toNat - 16 < 4 then (if 16 ≤ address.toNat then some ⟨address.toNat - 16, h⟩ else none) else none

/-- A frame that has passed the line link's CRC check, routed by address and kind (R153). -/
def routeLine (f : SoundFrame) (s : State) : State :=
  if f.address = addressPart ∧ f.kind = kindMarker then arriveMarker f.payload s
  else if f.address = addressPart ∧ f.kind = kindRequest then arriveRequest (parseRequest f.payload) s
  else if f.kind = kindHead then
    match headOf f.address with
    | some h => enqueueHeadBound ⟨h, f.payload⟩ s
    | none => countMisaddressed s
  else countMisaddressed s

/-- Bytes received on the line link, at the end of their reception (R152). -/
def receiveLine (bytes : List Byte) (ended : FrameEnd) (s : State) : State :=
  match parseFrame bytes ended with
  | none => lineLinkError s
  | some f => routeLine f s

/-- A frame on the line link given by its fields: one whose payload no length byte can hold is a framing error (R152, R168).
(DESIGN CHOICE: notes/assumptions/19.md.) -/
def lineFrame (f : SoundFrame) (s : State) : State :=
  if f.payload.length ≤ Config.payloadMax then routeLine f s else lineLinkError s

end Sys2Proof.Machine
end

