-- ==== Sys2Proof/Machine/CmdLinks.lean ====
section
/-! DEFINITION. The meanings of what arrives on the two links and of what their transmitters do (chapters 2, 3, 8 and 9). -/

namespace Sys2Proof.Machine

/-! ### The head link -/

/-- SAMPLE_FRAME (R46, R48, R50, R52, R53, R55). -/
def execSampleFrame (ch : Chan) (payload : List Byte) (s : State) : Host.Outcome State Fault Refusal :=
  takes (headFrame ⟨BitVec.ofNat 8 ch.val, kindSample, payload⟩) s

/-- HEAD_FRAME_RELAY (R45). -/
def execHeadFrameRelay (payload : List Byte) (s : State) : Host.Outcome State Fault Refusal :=
  takes (headFrame ⟨addressLine, kindHead, payload⟩) s

/-- HEAD_LINK_BAD_FRAME (R42, R43). -/
def execHeadLinkBadFrame (bytes : List Byte) (ended : FrameEnd) (s : State) : Host.Outcome State Fault Refusal :=
  takes (receiveHead bytes ended) s

/-- HEAD_LINK_MISADDRESSED (R44). -/
def execHeadLinkMisaddressed (address kind : Byte) (payload : List Byte) (s : State) : Host.Outcome State Fault Refusal :=
  takes (headFrame ⟨address, kind, payload⟩) s

/-- HEAD_TX_START (R155). -/
def execHeadTxStart (s : State) : Host.Outcome State Fault Refusal := takes headTxChoose s

/-- HEAD_TX_COMPLETE (R155): the transmitter is IDLE, and the next head-bound frame starts. -/
def execHeadTxComplete (s : State) : Host.Outcome State Fault Refusal := takes headTxDone s

/-! ### Markers -/

/-- CYCLE_START (R27, R31, R34). -/
def execCycleStart (mould : MouldId) (number : CycleNumber) (s : State) : Host.Outcome State Fault Refusal :=
  takes (takeMarker (.cycleStart mould number)) s

/-- PHASE (R27, R32). -/
def execPhase (p : MarkerPhase) (s : State) : Host.Outcome State Fault Refusal := takes (takeMarker (.phase p)) s

/-- CYCLE_END (R27, R33). -/
def execCycleEnd (s : State) : Host.Outcome State Fault Refusal := takes (takeMarker .cycleEnd) s

/-- MARKER_FORMAT_ERROR (R27). -/
def execMarkerFormatError (payload : List Byte) (s : State) : Host.Outcome State Fault Refusal :=
  takes (lineFrame ⟨addressPart, kindMarker, payload⟩) s

/-! ### The other arrivals on the line link -/

/-- REQUEST_ENQUEUE (R156). -/
def execRequestEnqueue (payload : List Byte) (s : State) : Host.Outcome State Fault Refusal :=
  takes (lineFrame ⟨addressPart, kindRequest, payload⟩) s

/-- HEAD_BOUND_ENQUEUE (R155). -/
def execHeadBoundEnqueue (head : Fin 4) (payload : List Byte) (s : State) : Host.Outcome State Fault Refusal :=
  takes (lineFrame ⟨BitVec.ofNat 8 (16 + head.val), kindHead, payload⟩) s

/-- LINE_LINK_BAD_FRAME (R152). -/
def execLineLinkBadFrame (bytes : List Byte) (ended : FrameEnd) (s : State) : Host.Outcome State Fault Refusal :=
  takes (receiveLine bytes ended) s

/-- LINE_LINK_MISADDRESSED (R153). -/
def execLineLinkMisaddressed (address kind : Byte) (payload : List Byte) (s : State) : Host.Outcome State Fault Refusal :=
  takes (lineFrame ⟨address, kind, payload⟩) s

/-- PAUSE (R148). -/
def execPause (s : State) : Host.Outcome State Fault Refusal := takes pause s

/-- RESUME (R148). -/
def execResume (s : State) : Host.Outcome State Fault Refusal := takes resume s

/-! ### The line link transmitter -/

/-- LINE_TX_START (R134, R146, R148, R157). -/
def execLineTxStart (s : State) : Host.Outcome State Fault Refusal := takes chooseAndServe s

/-- LINE_TX_COMPLETE (R135, R146). -/
def execLineTxComplete (s : State) : Host.Outcome State Fault Refusal := takes lineTxDone s

end Sys2Proof.Machine
end

