-- ==== Sys2Proof/Machine/CmdRequests.lean ====
section
/-! DEFINITION. The meanings of the request rows: the arrival of each request on the line link, which management
executes (chapters 9 and 11; notes/assumptions/2.md). -/

namespace Sys2Proof.Machine

/-! ### Bad requests and reads -/

/-- BAD_REQUEST (R158). -/
def execBadRequest (payload : List Byte) (s : State) : Host.Outcome State Fault Refusal :=
  takes (lineFrame ⟨addressPart, kindRequest, payload⟩) s

/-- READ_STATUS (R124, R159). -/
def execReadStatus (tag : Tag) (s : State) : Host.Outcome State Fault Refusal :=
  takes (arriveRequest ⟨tag, .readStatus⟩) s

/-- READ_COUNTERS (R160). -/
def execReadCounters (tag : Tag) (flag : Byte) (s : State) : Host.Outcome State Fault Refusal :=
  takes (arriveRequest ⟨tag, .readCounters flag⟩) s

/-- READ_COUNTERS with the clear flag 1 (R43, R160, R166). -/
def execReadCountersClear (tag : Tag) (s : State) : Host.Outcome State Fault Refusal :=
  takes (arriveRequest ⟨tag, .readCounters 1⟩) s

/-- GET_CONFIG (R161). -/
def execGetConfig (tag : Tag) (item : ConfigItem) (index : Byte) (s : State) : Host.Outcome State Fault Refusal :=
  takes (arriveRequest ⟨tag, .getConfig item index⟩) s

/-! ### Configuration writes -/

/-- SET_CONFIG of item channelEnable (R47, R51, R54, R73, R161, R165). -/
def execSetChannelEnable (tag : Tag) (index value : Byte) (s : State) : Host.Outcome State Fault Refusal :=
  takes (arriveRequest ⟨tag, .setConfig (.channelEnable index value)⟩) s

/-- SET_CONFIG of item floorTrack (R58, R161, R165). -/
def execSetFloorTrack (tag : Tag) (index value : Byte) (s : State) : Host.Outcome State Fault Refusal :=
  takes (arriveRequest ⟨tag, .setConfig (.floorTrack index value)⟩) s

/-- SET_CONFIG of item forwardingPolicy (R149, R161, R165). -/
def execSetForwardingPolicy (tag : Tag) (index value : Byte) (s : State) : Host.Outcome State Fault Refusal :=
  takes (arriveRequest ⟨tag, .setConfig (.forwardingPolicy index value)⟩) s

/-- SET_CONFIG of item pre (R140, R149, R161, R165). -/
def execSetPre (tag : Tag) (index value : Byte) (s : State) : Host.Outcome State Fault Refusal :=
  takes (arriveRequest ⟨tag, .setConfig (.pre index value)⟩) s

/-- SET_CONFIG of item post (R149, R161, R165). -/
def execSetPost (tag : Tag) (index value : Byte) (s : State) : Host.Outcome State Fault Refusal :=
  takes (arriveRequest ⟨tag, .setConfig (.post index value)⟩) s

/-- SET_CONFIG of item lossTimeout (R49, R161, R165). -/
def execSetLossTimeout (tag : Tag) (index : Byte) (value : BitVec 16) (s : State) : Host.Outcome State Fault Refusal :=
  takes (arriveRequest ⟨tag, .setConfig (.lossTimeout index value)⟩) s

/-- SET_CONFIG of item strokeMin (R23, R161, R165). -/
def execSetStrokeMin (tag : Tag) (index : Byte) (value : BitVec 16) (s : State) : Host.Outcome State Fault Refusal :=
  takes (arriveRequest ⟨tag, .setConfig (.strokeMin index value)⟩) s

/-- SET_CONFIG of item strokeMax (R23, R161, R165). -/
def execSetStrokeMax (tag : Tag) (index : Byte) (value : BitVec 16) (s : State) : Host.Outcome State Fault Refusal :=
  takes (arriveRequest ⟨tag, .setConfig (.strokeMax index value)⟩) s

/-- SET_CONFIG of item pairSpan (R36, R83, R85, R161, R165). -/
def execSetPairSpan (tag : Tag) (index value : Byte) (s : State) : Host.Outcome State Fault Refusal :=
  takes (arriveRequest ⟨tag, .setConfig (.pairSpan index value)⟩) s

/-- SET_CONFIG of item maxCycleTicks (R35, R161, R165). -/
def execSetMaxCycleTicks (tag : Tag) (index : Byte) (value : BitVec 24) (s : State) : Host.Outcome State Fault Refusal :=
  takes (arriveRequest ⟨tag, .setConfig (.maxCycleTicks index value)⟩) s

/-- SET_CONFIG of item settleTimeout (R37, R161, R165). -/
def execSetSettleTimeout (tag : Tag) (index : Byte) (value : BitVec 16) (s : State) : Host.Outcome State Fault Refusal :=
  takes (arriveRequest ⟨tag, .setConfig (.settleTimeout index value)⟩) s

/-- SET_CONFIG of item eventReports (R93, R161, R165). -/
def execSetEventReports (tag : Tag) (index value : Byte) (s : State) : Host.Outcome State Fault Refusal :=
  takes (arriveRequest ⟨tag, .setConfig (.eventReports index value)⟩) s

/-- SET_CONFIG of item linkErrLimit (R43, R161, R165). -/
def execSetLinkErrLimit (tag : Tag) (index value : Byte) (s : State) : Host.Outcome State Fault Refusal :=
  takes (arriveRequest ⟨tag, .setConfig (.linkErrLimit index value)⟩) s

/-- SET_CONFIG of item classMask (R125, R161, R165). -/
def execSetClassMask (tag : Tag) (index value : Byte) (s : State) : Host.Outcome State Fault Refusal :=
  takes (arriveRequest ⟨tag, .setConfig (.classMask index value)⟩) s

/-- SET_CONFIG of item classAction (R125, R161, R165). -/
def execSetClassAction (tag : Tag) (index value : Byte) (s : State) : Host.Outcome State Fault Refusal :=
  takes (arriveRequest ⟨tag, .setConfig (.classAction index value)⟩) s

/-- SET_CONFIG of item holdMs (R129, R161, R165). -/
def execSetHoldMs (tag : Tag) (index : Byte) (value : BitVec 16) (s : State) : Host.Outcome State Fault Refusal :=
  takes (arriveRequest ⟨tag, .setConfig (.holdMs index value)⟩) s

/-- SET_CONFIG of item rejectMs (R131, R161, R165). -/
def execSetRejectMs (tag : Tag) (index : Byte) (value : BitVec 16) (s : State) : Host.Outcome State Fault Refusal :=
  takes (arriveRequest ⟨tag, .setConfig (.rejectMs index value)⟩) s

/-! ### The mould table -/

/-- WRITE_SLOT_HEADER (R10, R11). -/
def execWriteSlotHeader (tag : Tag) (slot : Byte) (mould : MouldId) (s : State) : Host.Outcome State Fault Refusal :=
  takes (arriveRequest ⟨tag, .writeSlotHeader slot mould⟩) s

/-- WRITE_CHANNEL (R10, R12). -/
def execWriteChannel (tag : Tag) (slot channel : Byte) (fields : ChannelFields)
    (s : State) : Host.Outcome State Fault Refusal :=
  takes (arriveRequest ⟨tag, .writeChannel slot channel fields⟩) s

/-- WRITE_ZONE (R10, R13). -/
def execWriteZone (tag : Tag) (slot zone : Byte) (fields : ZoneFields) (s : State) : Host.Outcome State Fault Refusal :=
  takes (arriveRequest ⟨tag, .writeZone slot zone fields⟩) s

/-- CLEAR_SLOT (R10, R14). -/
def execClearSlot (tag : Tag) (slot : Byte) (s : State) : Host.Outcome State Fault Refusal :=
  takes (arriveRequest ⟨tag, .clearSlot slot⟩) s

/-- ACK_ZONE (R10, R15). -/
def execAckZone (tag : Tag) (slot zone : Byte) (s : State) : Host.Outcome State Fault Refusal :=
  takes (arriveRequest ⟨tag, .ackZone slot zone⟩) s

/-- READ_SLOT (R16). -/
def execReadSlot (tag : Tag) (slot : Byte) (s : State) : Host.Outcome State Fault Refusal :=
  takes (arriveRequest ⟨tag, .readSlot slot⟩) s

/-- READ_ZONES (R16, R162). -/
def execReadZones (tag : Tag) (slot first last : Byte) (s : State) : Host.Outcome State Fault Refusal :=
  takes (arriveRequest ⟨tag, .readZones slot first last⟩) s

/-! ### Run state, holds, tests and RESTART -/

/-- START (R26, R163). -/
def execStart (tag : Tag) (s : State) : Host.Outcome State Fault Refusal := takes (arriveRequest ⟨tag, .start⟩) s

/-- STOP (R26, R39, R163). -/
def execStop (tag : Tag) (s : State) : Host.Outcome State Fault Refusal := takes (arriveRequest ⟨tag, .stop⟩) s

/-- RELEASE_HOLD with the all flag 1 (R130). -/
def execReleaseHoldAll (tag : Tag) (identifier : Byte) (s : State) : Host.Outcome State Fault Refusal :=
  takes (arriveRequest ⟨tag, .releaseHold 1 identifier⟩) s

/-- RELEASE_HOLD with another all flag (R130). -/
def execReleaseHoldOne (tag : Tag) (flag identifier : Byte) (s : State) : Host.Outcome State Fault Refusal :=
  takes (arriveRequest ⟨tag, .releaseHold flag identifier⟩) s

/-- INJECT_HIT (R175, R176). -/
def execInjectHit (tag : Tag) (channel offset duration : Byte) (peak : BitVec 16) (area : BitVec 24)
    (s : State) : Host.Outcome State Fault Refusal :=
  takes (arriveRequest ⟨tag, .injectHit channel offset duration peak area⟩) s

/-- FORCE_FAULT (R177). -/
def execForceFault (tag : Tag) (mask : Byte) (s : State) : Host.Outcome State Fault Refusal :=
  takes (arriveRequest ⟨tag, .forceFault mask⟩) s

/-- RESTART (R164). -/
def execRestart (tag : Tag) (s : State) : Host.Outcome State Fault Refusal := takes (arriveRequest ⟨tag, .restart⟩) s

end Sys2Proof.Machine
end

