-- ==== Sys2Proof/Machine/CmdTime.lean ====
section
/-! DEFINITION. The meanings of the resets, the stroke edge, the expiries and the tick (chapters 2, 3 and 7). -/

namespace Sys2Proof.Machine

/-! ### Resets -/

/-- POWER_ON_RESET (R41, and R17, R60, R79, R98, R120, R137, R151, R165, R167). -/
def execPowerOnReset (s : State) : Host.Outcome State Fault Refusal := .next (powerOnReset s)

/-- PIN_RESET (R41): every block at its pin-reset values, nRST low. -/
def execPinReset (s : State) : Host.Outcome State Fault Refusal := .next (pinReset s)

/-- NRST_RELEASE (R18). -/
def execNrstRelease (s : State) : Host.Outcome State Fault Refusal := .next (nrstRelease s)

/-! ### Time and stroke -/

/-- TICK (R18): the counter is held at 0 while nRST is low. -/
def execTick (s : State) : Host.Outcome State Fault Refusal := takes tickEdge s

/-- STROKE_EDGE (R21, R22). -/
def execStrokeEdge (s : State) : Host.Outcome State Fault Refusal := takes strokeEdge s

/-- STROKE_STILLNESS (R22). -/
def execStrokeStillness (s : State) : Host.Outcome State Fault Refusal := takes strokeStillness s

/-- STROKE_LOST_EXPIRY (R25). -/
def execStrokeLostExpiry (s : State) : Host.Outcome State Fault Refusal := takes strokeLostExpiry s

/-- CLOSED_HORIZON_EXPIRY (R29). -/
def execClosedHorizonExpiry (s : State) : Host.Outcome State Fault Refusal := takes closedHorizonExpiry s

/-! ### Timers -/

/-- LOSS_TIMEOUT (R49). -/
def execLossTimeout (ch : Chan) (s : State) : Host.Outcome State Fault Refusal := takes (lossTimeout ch) s

/-- CYCLE_TIMEOUT (R35). -/
def execCycleTimeout (s : State) : Host.Outcome State Fault Refusal := takes cycleTimeout s

/-- SETTLE_TIMEOUT (R37). -/
def execSettleTimeout (s : State) : Host.Outcome State Fault Refusal := takes settleTimeout s

/-- HOLD_TIMER_EXPIRY (R129). -/
def execHoldTimerExpiry (s : State) : Host.Outcome State Fault Refusal := takes holdTimerExpiry s

/-- REJECT_TIMER_EXPIRY (R132). -/
def execRejectTimerExpiry (s : State) : Host.Outcome State Fault Refusal := takes rejectTimerExpiry s

end Sys2Proof.Machine
end

