-- ==== Sys2Proof/Machine/Dispatch.lean ====
section
/-! DEFINITION. The dispatch of commands to their meanings, one arm for each row of the table. -/

namespace Sys2Proof.Machine

/-- The effect of a command on everything but the queue. -/
def exec (i : Instr) (s : State) : Host.Outcome State Fault Refusal :=
  match i with
  | .powerOnReset => Sys2Proof.Machine.execPowerOnReset s
  | .pinReset => Sys2Proof.Machine.execPinReset s
  | .nrstRelease => Sys2Proof.Machine.execNrstRelease s
  | .strokeEdge => Sys2Proof.Machine.execStrokeEdge s
  | .strokeStillness => Sys2Proof.Machine.execStrokeStillness s
  | .strokeLostExpiry => Sys2Proof.Machine.execStrokeLostExpiry s
  | .closedHorizonExpiry => Sys2Proof.Machine.execClosedHorizonExpiry s
  | .sampleFrame ch payload => Sys2Proof.Machine.execSampleFrame ch payload s
  | .headFrameRelay payload => Sys2Proof.Machine.execHeadFrameRelay payload s
  | .headLinkBadFrame bytes ended => Sys2Proof.Machine.execHeadLinkBadFrame bytes ended s
  | .headLinkMisaddressed address kind payload => Sys2Proof.Machine.execHeadLinkMisaddressed address kind payload s
  | .lossTimeout ch => Sys2Proof.Machine.execLossTimeout ch s
  | .cycleTimeout => Sys2Proof.Machine.execCycleTimeout s
  | .settleTimeout => Sys2Proof.Machine.execSettleTimeout s
  | .holdTimerExpiry => Sys2Proof.Machine.execHoldTimerExpiry s
  | .rejectTimerExpiry => Sys2Proof.Machine.execRejectTimerExpiry s
  | .cycleStart mould number => Sys2Proof.Machine.execCycleStart mould number s
  | .phase p => Sys2Proof.Machine.execPhase p s
  | .cycleEnd => Sys2Proof.Machine.execCycleEnd s
  | .markerFormatError payload => Sys2Proof.Machine.execMarkerFormatError payload s
  | .requestEnqueue payload => Sys2Proof.Machine.execRequestEnqueue payload s
  | .headBoundEnqueue head payload => Sys2Proof.Machine.execHeadBoundEnqueue head payload s
  | .lineLinkBadFrame bytes ended => Sys2Proof.Machine.execLineLinkBadFrame bytes ended s
  | .lineLinkMisaddressed address kind payload => Sys2Proof.Machine.execLineLinkMisaddressed address kind payload s
  | .pause => Sys2Proof.Machine.execPause s
  | .resume => Sys2Proof.Machine.execResume s
  | .lineTxStart => Sys2Proof.Machine.execLineTxStart s
  | .lineTxComplete => Sys2Proof.Machine.execLineTxComplete s
  | .headTxStart => Sys2Proof.Machine.execHeadTxStart s
  | .headTxComplete => Sys2Proof.Machine.execHeadTxComplete s
  | .badRequest payload => Sys2Proof.Machine.execBadRequest payload s
  | .readStatus tag => Sys2Proof.Machine.execReadStatus tag s
  | .readCounters tag flag => Sys2Proof.Machine.execReadCounters tag flag s
  | .readCountersClear tag => Sys2Proof.Machine.execReadCountersClear tag s
  | .getConfig tag item index => Sys2Proof.Machine.execGetConfig tag item index s
  | .setChannelEnable tag index value => Sys2Proof.Machine.execSetChannelEnable tag index value s
  | .setFloorTrack tag index value => Sys2Proof.Machine.execSetFloorTrack tag index value s
  | .setForwardingPolicy tag index value => Sys2Proof.Machine.execSetForwardingPolicy tag index value s
  | .setPre tag index value => Sys2Proof.Machine.execSetPre tag index value s
  | .setPost tag index value => Sys2Proof.Machine.execSetPost tag index value s
  | .setLossTimeout tag index value => Sys2Proof.Machine.execSetLossTimeout tag index value s
  | .setStrokeMin tag index value => Sys2Proof.Machine.execSetStrokeMin tag index value s
  | .setStrokeMax tag index value => Sys2Proof.Machine.execSetStrokeMax tag index value s
  | .setPairSpan tag index value => Sys2Proof.Machine.execSetPairSpan tag index value s
  | .setMaxCycleTicks tag index value => Sys2Proof.Machine.execSetMaxCycleTicks tag index value s
  | .setSettleTimeout tag index value => Sys2Proof.Machine.execSetSettleTimeout tag index value s
  | .setEventReports tag index value => Sys2Proof.Machine.execSetEventReports tag index value s
  | .setLinkErrLimit tag index value => Sys2Proof.Machine.execSetLinkErrLimit tag index value s
  | .setClassMask tag index value => Sys2Proof.Machine.execSetClassMask tag index value s
  | .setClassAction tag index value => Sys2Proof.Machine.execSetClassAction tag index value s
  | .setHoldMs tag index value => Sys2Proof.Machine.execSetHoldMs tag index value s
  | .setRejectMs tag index value => Sys2Proof.Machine.execSetRejectMs tag index value s
  | .writeSlotHeader tag slot mould => Sys2Proof.Machine.execWriteSlotHeader tag slot mould s
  | .writeChannel tag slot channel fields => Sys2Proof.Machine.execWriteChannel tag slot channel fields s
  | .writeZone tag slot zone fields => Sys2Proof.Machine.execWriteZone tag slot zone fields s
  | .clearSlot tag slot => Sys2Proof.Machine.execClearSlot tag slot s
  | .ackZone tag slot zone => Sys2Proof.Machine.execAckZone tag slot zone s
  | .readSlot tag slot => Sys2Proof.Machine.execReadSlot tag slot s
  | .readZones tag slot first last => Sys2Proof.Machine.execReadZones tag slot first last s
  | .start tag => Sys2Proof.Machine.execStart tag s
  | .stop tag => Sys2Proof.Machine.execStop tag s
  | .releaseHoldAll tag identifier => Sys2Proof.Machine.execReleaseHoldAll tag identifier s
  | .releaseHoldOne tag flag identifier => Sys2Proof.Machine.execReleaseHoldOne tag flag identifier s
  | .injectHit tag channel offset duration peak area => Sys2Proof.Machine.execInjectHit tag channel offset duration peak area s
  | .forceFault tag mask => Sys2Proof.Machine.execForceFault tag mask s
  | .restart tag => Sys2Proof.Machine.execRestart tag s
  | .tick => Sys2Proof.Machine.execTick s

end Sys2Proof.Machine
end

