-- ==== Sys2Proof/Machine/Frames.lean ====
section
/-! DEFINITION. The bytes of the frames that the part sends (R168, R169, R171, R173, R174), and what its two transmitters and
its output pins show. -/

namespace Sys2Proof.Machine

/-- A response status's value (R171). -/
def Status.number : Status → Nat
  | .ok => 0
  | .badRequest => 1
  | .badValue => 2
  | .noSlot => 3
  | .inUse => 4
  | .zoneLatched => 5
  | .duplicateId => 6
  | .notOpen => 7

/-- A RESPONSE payload: the tag byte, the code, the status and the body (R171). -/
def Response.payload (r : Response) : List Byte := [r.tag.setWidth 8, r.code] ++ nat8 r.status.number ++ r.body

/-- The trailer byte of a forwarded sample frame (R169). -/
def SampleOut.trailer (f : SampleOut) : Byte :=
  BitVec.ofNat 8 (bit f.hitStart + 2 * bit f.inHit + 4 * bit f.gapBefore + 8 * bit f.dropBefore)

/-- The payload of a forwarded sample frame: as it arrived, with its trailer byte (R142, R169). -/
def SampleOut.outPayload (f : SampleOut) : List Byte := f.payload ++ [f.trailer]

/-- The partner byte of an event record, 0xFF for SINGLE (R173). -/
def partnerByte (m : Option Mate) : List Byte :=
  match m with
  | some m => nat8 m.chan.val
  | none => [0xFF]

/-- The delta byte of an event record, 0 for SINGLE (R173). -/
def deltaByte (m : Option Mate) : List Byte :=
  match m with
  | some m => int8 m.delta
  | none => [0]

/-- The flags byte of an event record (R173). -/
def EventRec.flagByte (e : EventRec) : List Byte :=
  nat8 (bit e.mate.isSome + 2 * bit e.scored + 4 * bit e.angle.isSome + 8 * bit e.injected)

/-- The payload of an EVENT frame, 22 bytes (R173). -/
def EventRec.payload (e : EventRec) : List Byte :=
  nat8 e.zone.val ++ bytes32 e.cycle ++ bytes32 e.start ++ nat8 e.primary.val ++ partnerByte e.mate ++ deltaByte e.mate ++
    nat16 e.peak ++ nat24 e.area ++ nat8 (e.angle.getD 0) ++ nat8 e.phase.number ++ e.flagByte ++ nat8 e.duration ++
    nat8 e.rise

/-- The flags byte of a CYCLE report (R173). -/
def CycleFlags.byte (f : CycleFlags) : List Byte :=
  nat8 (bit f.forced + 2 * bit f.timeout + 4 * bit f.unknownMould + 8 * bit f.abandoned + 16 * bit f.markerLoss +
    32 * bit f.reject + 64 * bit f.reportLost)

/-- A zone entry of a CYCLE report, 9 bytes (R173). -/
def ZoneEntry.bytes (e : ZoneEntry) : List Byte :=
  nat8 e.zone.val ++ nat8 e.tally.count ++ nat8 e.tally.ungated ++ nat24 e.tally.areaSum ++ nat16 e.evidence ++
    nat8 (e.state.number + 4 * e.count + 64 * bit e.blind)

/-- The payload of a CYCLE frame, 29 bytes and 9 for each zone entry (R173). -/
def Report.payload (r : Report) : List Byte :=
  bytes32 r.number ++ bytes16 r.mould ++ [slotByte r.slot] ++ r.flags.byte ++ nat32 r.counts.hitsClosed ++
    nat32 r.counts.pairEvents ++ nat32 r.counts.singleEvents ++ nat32 r.counts.unlocated ++ nat32 r.counts.noise ++
    nat8 r.zones.length ++ (r.zones.map ZoneEntry.bytes).flatten

/-- The last zone alerted in an ALERT frame, 3 bytes: 0xFF, 0, 0 when absent (R174). -/
def lastZoneBytes (z : Option ZoneAlert) : List Byte :=
  match z with
  | none => [0xFF, 0, 0]
  | some a => nat8 a.slot.val ++ nat8 a.zone.val ++ nat8 a.state.number

/-- The payload of an ALERT frame, 9 bytes (R174). -/
def AlertContents.payload (a : AlertContents) : List Byte :=
  [a.live, a.sticky, a.changed] ++ nat8 (bit a.holdAsserted) ++ nat8 a.holdSize ++ nat8 a.zoneAlerts ++
    lastZoneBytes a.lastZone

/-- The bytes of a control lane frame between its delimiters (R168). -/
def ControlFrame.bytes : ControlFrame → List Byte
  | .event e => envelope addressLine kindEvent e.payload
  | .head p => envelope addressLine kindHead p
  | .cycle r => envelope addressLine kindCycle r.payload
  | .response r => envelope addressLine kindResponse r.payload

/-- The bytes of a line link frame between its delimiters (R168, R169). -/
def LineFrame.bytes : LineFrame → List Byte
  | .alert a => envelope addressLine kindAlert a.payload
  | .control f => f.bytes
  | .sample f => envelope (BitVec.ofNat 8 f.chan.val) kindSample f.outPayload

/-- The bytes of a head-bound frame between its delimiters, with the address it arrived with (R155, R168). -/
def HeadFrame.bytes (f : HeadFrame) : List Byte := envelope (BitVec.ofNat 8 (16 + f.head.val)) kindHead f.payload

/-- What the part shows outside: the bytes of the frame each transmitter sends, the HOLD and REJECT outputs, and whether TICK
runs (R19, R127, R132, R146, R155). -/
structure Outputs where
  line : Option (List Byte)
  head : Option (List Byte)
  hold : Bool
  reject : Bool
  tickRuns : Bool
  deriving DecidableEq, Repr

/-- The outputs of the part in a state. -/
def outputs (s : State) : Outputs where
  line := s.tx.map LineFrame.bytes
  head := s.headTx.map HeadFrame.bytes
  hold := s.holdLine
  reject := s.rejectLine
  tickRuns := s.tickRuns

end Sys2Proof.Machine
end

