-- ==== Sys2Proof/WellFormed.lean ====
section
/-! DEFINITION. The commands whose operands fit their row of the table. exec gives a meaning to every command; an ill-formed
one acts as what its operands are (notes/assumptions/19.md). -/

namespace Sys2Proof

open Sys2Proof.Machine

/-- A payload that a frame's length byte can announce (R168). -/
def payloadFits (payload : List Byte) : Bool := payload.length ≤ Config.payloadMax

/-- Bytes whose reception made a framing or a CRC error: 256 of them make one by their number alone (R42, R152). -/
def isBadFrame (bytes : List Byte) (ended : FrameEnd) : Bool :=
  (parseFrame bytes ended).isNone &&
    (if ended = .overlong then bytes.length == Config.overlongBytes else bytes.length < Config.overlongBytes)

/-- The head link receiver hands on frames of this address and kind (R44). -/
def routedHead (address kind : Byte) : Bool :=
  (kind == kindSample && (channelOf address).isSome) || (kind == kindHead && address == addressLine)

/-- The line link receiver hands on frames of this address and kind (R153). -/
def routedLine (address kind : Byte) : Bool :=
  (address == addressPart && (kind == kindMarker || kind == kindRequest)) || (kind == kindHead && (headOf address).isSome)

/-- The operands of the command fit its row. -/
def wellFormed (i : Instr) : Bool :=
  match i with
  | .sampleFrame _ payload => payloadFits payload
  | .headFrameRelay payload => payloadFits payload
  | .headLinkBadFrame bytes ended => isBadFrame bytes ended
  | .headLinkMisaddressed address kind payload => !routedHead address kind && payloadFits payload
  | .markerFormatError payload => (parseMarker payload).isNone && payloadFits payload
  | .requestEnqueue payload => payloadFits payload
  | .headBoundEnqueue _ payload => payloadFits payload
  | .lineLinkBadFrame bytes ended => isBadFrame bytes ended
  | .lineLinkMisaddressed address kind payload => !routedLine address kind && payloadFits payload
  | .badRequest payload => (parseRequest payload).req.isMalformed && payloadFits payload
  | .readCounters _ flag => flag != 1
  | .releaseHoldOne _ flag _ => flag != 1
  | .powerOnReset | .pinReset | .nrstRelease | .strokeEdge | .strokeStillness | .strokeLostExpiry | .closedHorizonExpiry => true
  | .lossTimeout _ | .cycleTimeout | .settleTimeout | .holdTimerExpiry | .rejectTimerExpiry => true
  | .cycleStart _ _ | .phase _ | .cycleEnd | .pause | .resume => true
  | .lineTxStart | .lineTxComplete | .headTxStart | .headTxComplete => true
  | .readStatus _ | .readCountersClear _ | .getConfig _ _ _ => true
  | .setChannelEnable _ _ _ | .setFloorTrack _ _ _ | .setForwardingPolicy _ _ _ | .setPre _ _ _ | .setPost _ _ _ => true
  | .setLossTimeout _ _ _ | .setStrokeMin _ _ _ | .setStrokeMax _ _ _ | .setPairSpan _ _ _ => true
  | .setMaxCycleTicks _ _ _ | .setSettleTimeout _ _ _ | .setEventReports _ _ _ | .setLinkErrLimit _ _ _ => true
  | .setClassMask _ _ _ | .setClassAction _ _ _ | .setHoldMs _ _ _ | .setRejectMs _ _ _ => true
  | .writeSlotHeader _ _ _ | .writeChannel _ _ _ _ | .writeZone _ _ _ _ | .clearSlot _ _ | .ackZone _ _ _ => true
  | .readSlot _ _ | .readZones _ _ _ _ | .start _ | .stop _ | .releaseHoldAll _ _ => true
  | .injectHit _ _ _ _ _ _ | .forceFault _ _ | .restart _ | .tick => true

end Sys2Proof
end

