-- ==== Sys2Proof/Safety.lean ====
section
/-! DEFINITION. What the claims speak of: the invariants of the part, forced closes, the states in which a request is
executed at once, and the state after its RESPONSE has entered the control lane. -/

namespace Sys2Proof.Machine

/-! ### Invariants -/

/-- Every queue and list holds at most what the manual gives it (R22, R30, R80, R143, R144, R155, R156). -/
structure CapacityInv (s : State) : Prop where
  strokes : s.strokes.length ≤ 8
  hits : s.hits.length ≤ 32
  control : s.controlFill ≤ 16
  samples : s.sampleLane.length ≤ 64
  requests : s.requests.length ≤ 4
  headBound : s.headBound.length ≤ 4
  log : ∀ cy ∈ s.cycle, cy.log.length ≤ 8

/-- Between commands nothing waits that could start: no choice of the arbiter and no held entry is left over, an IDLE
transmitter of a FLOWING line has nothing to send, a waiting request finds no free entry, and an IDLE head link transmitter
finds no head-bound frame (R144, R146, R155, R157). -/
structure QuietInv (s : State) : Prop where
  deferred : s.deferred = false
  held : s.held = false
  line : s.tx = none → s.paused = false → s.alert ≠ .pending ∧ s.controlLane = [] ∧ s.sampleLane = []
  requests : s.requests ≠ [] → s.controlFree = 0
  head : s.headTx = none → s.headBound = []

/-- A zone definition is in the ranges of R6. -/
structure ZoneDefInv (d : ZoneDef) : Prop where
  channels : ∀ x y lo hi, d.kind = .pair x y lo hi → x ≠ y ∧ -127 ≤ lo ∧ lo ≤ hi ∧ hi ≤ 127
  gates : d.gateLo ≤ 255 ∧ d.gateHi ≤ 255
  minArea : d.minArea ≤ 2097151
  countLimit : 1 ≤ d.countLimit ∧ d.countLimit ≤ 255
  shifts : d.areaShift ≤ 15 ∧ 1 ≤ d.leakShift ∧ d.leakShift ≤ 15
  levels : 1 ≤ d.watchLevel ∧ d.watchHyst ≤ d.watchLevel ∧ d.watchLevel < d.tripLevel ∧ d.tripLevel ≤ 65535
  tripCycles : 1 ≤ d.tripCycles ∧ d.tripCycles ≤ 8

/-- A zone's runtime is in the ranges of R9: the crack cycle is present exactly in CRACK. -/
structure RuntimeInv (r : Runtime) : Prop where
  evidence : r.evidence ≤ 65535
  count : r.count ≤ 8
  crackCycle : r.crackCycle.isSome = true ↔ r.state = .crack

/-- The mould table (R2, R4, R6, R9): the in-use mark stands on the slot of the open cycle and on no other, that slot is
DEFINED, the mould IDs are legal and distinct, and every DEFINED zone is in its ranges. -/
structure TableInv (s : State) : Prop where
  marks : ∀ k, (s.slot k).inUse = true ↔ s.slotInUse = some k
  defined : ∀ k, s.slotInUse = some k → (s.slot k).profile.isSome = true
  ids : ∀ k, ∀ p ∈ (s.slot k).profile, mouldIdOk p.mouldId = true
  distinct : ∀ j k, ∀ p ∈ (s.slot j).profile, ∀ q ∈ (s.slot k).profile, p.mouldId = q.mouldId → j = k
  zones : ∀ k z, ∀ r ∈ s.zone? k z, ZoneDefInv r.defn ∧ RuntimeInv r.rt

/-- One channel: what is present in LIVE and in IN_HIT alone, the floor's ranges, and the forwarding stage's (R49, R52, R57,
R58, R66, R77, R140, R141, R149). -/
structure OneChannelInv (ch : Channel) : Prop where
  expected : ch.expected.isSome = true ↔ ch.intake = .live
  lossTimer : ch.lossFrom.isSome = true ↔ ch.intake = .live
  sigma : ch.sigma.isSome = true → ch.intake = .live
  inHit : ch.openHit.isSome = true ↔ ch.det = .inHit
  hitLive : ch.openHit.isSome = true → ch.intake = .live
  floor : ch.floor ≤ 4095
  block : ch.floorCount < 256 ∧ ch.floorSum ≤ 4095 * ch.floorCount
  untracked : ch.floorTrack = false → ch.floor = 0 ∧ ch.floorSum = 0 ∧ ch.floorCount = 0
  queue : ch.preQueue.length ≤ ch.pre ∧ ch.pre ≤ 3
  post : ch.postRemaining ≤ ch.post ∧ ch.post ≤ 15
  stage : ch.policy ≠ .aroundHits → ch.preQueue = [] ∧ ch.postRemaining = 0

/-- The eight channels, OFF exactly where the flag in channel_enable is clear (R47). -/
structure ChannelInv (s : State) : Prop where
  each : ∀ c, OneChannelInv (s.chan c)
  off : ∀ c, (s.chan c).intake = .off ↔ s.enabled c = false

/-- The fault and action unit (R125, R127, R128, R129, R136, R174): the hold sets are sets of identifiers, an identifier
pends only while a cycle is open, the hold timer runs only while the press is held, the last zone alerted is absent exactly
while the zone alert count is 0, and RESET is masked and without action. -/
structure HoldInv (s : State) : Prop where
  holds : s.holdSet.Pairwise (· < ·) ∧ ∀ n ∈ s.holdSet, n ≤ 135
  pendings : s.pendingHold.Pairwise (· < ·) ∧ ∀ n ∈ s.pendingHold, n ≤ 135
  open' : s.pendingHold ≠ [] → s.cycle.isSome = true
  timer : s.holdExpiry.isSome = true → s.holdSet ≠ []
  news : s.news.lastZone = none ↔ s.news.zoneAlerts = 0
  newsSince : s.newsSince.lastZone = none ↔ s.newsSince.zoneAlerts = 0
  reset : s.classes[clsReset].masked = true ∧ s.classes[clsReset].action = .none

/-- The part-wide configuration items are in the ranges of section 9.5. -/
structure ConfigInv (s : State) : Prop where
  lossTimeout : 16 ≤ s.cfg.lossTimeout ∧ s.cfg.lossTimeout ≤ 65535
  strokeLimits : 100 ≤ s.cfg.strokeMin ∧ s.cfg.strokeMin < s.cfg.strokeMax ∧ s.cfg.strokeMax ≤ 10000
  pairSpan : 1 ≤ s.cfg.pairSpan ∧ s.cfg.pairSpan ≤ 127
  maxCycleTicks : 50000 ≤ s.cfg.maxCycleTicks ∧ s.cfg.maxCycleTicks ≤ 16777215
  settleTimeout : 1000 ≤ s.cfg.settleTimeout ∧ s.cfg.settleTimeout ≤ 65535
  linkErrLimit : 1 ≤ s.cfg.linkErrLimit ∧ s.cfg.linkErrLimit ≤ 255
  holdMs : s.cfg.holdMs ≤ 65535
  rejectMs : 1 ≤ s.cfg.rejectMs ∧ s.cfg.rejectMs ≤ 255

/-- The open cycle's accounting (R94): until a count saturates, the hits closed are those of its events, two for each PAIR
event, those unlocated or noise, and those still pending. -/
def Accounted (s : State) : Prop :=
  ∀ cy ∈ s.cycle, cy.counts.hitsClosed < Config.max32 →
    2 * cy.counts.pairEvents + cy.counts.singleEvents + cy.counts.unlocated + cy.counts.noise + s.hits.length =
      cy.counts.hitsClosed

/-- The pending hit list and the open hits (R76, R77, R80, R81): with the cycle IDLE there are none; otherwise every pending hit
carries the open cycle's number and starts no earlier than it, the list is in order of start tick with ties by channel, and an
open hit started in the cycle's window, before now, and holds its channel's settled tick just before its start. -/
structure HitsInv (s : State) : Prop where
  idle : s.cycle = none → s.hits = [] ∧ ∀ c, (s.chan c).openHit = none
  cycle : ∀ cy ∈ s.cycle, ∀ h ∈ s.hits, h.cycle = cy.number ∧ 0 ≤ (h.start - cy.startTick).toInt
  order : s.hits.Pairwise fun a b => 0 < (b.start - a.start).toInt ∨ a.start = b.start ∧ a.chan ≤ b.chan
  opened : ∀ cy ∈ s.cycle, ∀ c, ∀ o ∈ (s.chan c).openHit,
    o.cycle = cy.number ∧ cy.contains o.start = true ∧ 0 < (s.tick - o.start).toInt ∧
      (s.chan c).sigma = some (o.start - 1)

/-- Signed tick differences compare as the manual means them: the open cycle began, its window ended, and every channel last
settled within the last 2^30 ticks, and pair_span is in its range. -/
structure Recent (s : State) : Prop where
  start : ∀ cy ∈ s.cycle, 0 ≤ (s.tick - cy.startTick).toInt ∧ (s.tick - cy.startTick).toInt < 1073741824
  ended : ∀ cy ∈ s.cycle, ∀ e ∈ cy.endTick, 0 ≤ (s.tick - e).toInt ∧ (s.tick - e).toInt < 1073741824
  settled : ∀ c, ∀ g ∈ (s.chan c).sigma, 0 ≤ (s.tick - g).toInt ∧ (s.tick - g).toInt < 1073741824
  pairSpan : s.cfg.pairSpan ≤ 127

/-! ### Zones -/

/-- Zone z uses channel c: it is DEFINED in the slot of the open cycle and located by that channel (R54). -/
def ZoneUses (s : State) (c : Chan) (z : ZoneIx) : Prop :=
  ∃ k r, s.slotInUse = some k ∧ s.zone? k z = some r ∧ r.defn.kind.uses c = true

/-! ### Frames -/

/-- What no sample, hit, close, fault or action touches: nRST, the time base, the stroke history, the pause state, the request
and head-bound queues, the head link transmitter, and the masks and actions of the fault classes, with the model's own queue
and marks. -/
structure SameBase (s t : State) : Prop where
  pending : t.pending = s.pending
  nrst : t.nrstLow = s.nrstLow
  tick : t.tick = s.tick
  strokes : t.strokes = s.strokes
  lastStroke : t.lastStroke = s.lastStroke
  paused : t.paused = s.paused
  requests : t.requests = s.requests
  headBound : t.headBound = s.headBound
  headTx : t.headTx = s.headTx
  held : t.held = s.held
  deferred : t.deferred = s.deferred
  classes : ∀ k : ClassIx, t.classes[k].masked = s.classes[k].masked ∧ t.classes[k].action = s.classes[k].action

/-! ### Forced closes -/

/-- A forced close of cycle cy at channel c: a hit open in the window is handed on TRUNCATED, and the forwarding stage is told
(R71, R72, R76, R141). -/
def cutHit (cy : Cycle) (s : State) (c : Chan) : State :=
  match (s.chan c).openHit with
  | none => s
  | some o =>
    if cy.contains o.start then
      handOn
        { chan := c, cycle := o.cycle, start := o.start, duration := o.duration, peak := o.peak,
          rise := (o.peakTick - o.start).toInt.toNat, area := o.area, phase := o.phase, angle := angleAt s o.start,
          truncated := true, long := false, injected := false }
        { s with
          chans := s.chans.set c
            (Channel.hitEnded
              { s.chan c with
                det := .armed, openHit := none, deadTime := none, sigma := (s.chan c).expected.map (· - 1) }) }
    else s

/-- The forced close of cycle cy, whose end tick and flags are set: the horizon, the hits cut in channel order, then the close
as any other, and the arbiter's choice at its end (R38, R72, R146). -/
def forcedClose (cy : Cycle) (s : State) : State :=
  arbitrate
    { finishClose
        (([0, 1, 2, 3, 4, 5, 6, 7] : List Chan).foldl (cutHit cy)
          { s with cycle := some cy, horizon := cy.endTick, deferred := true }) with
      deferred := s.deferred }

/-- What the forced close of cycle cy at the end tick leaves: IDLE, no pending hit and no pending hold, the horizon at the end
tick, the hits open in the window truncated and counted and every other channel as it was, the slot released with its cycle
count one up, and no other slot touched (R3, R4, R38, R71, R72, R99, R128, R141). -/
structure ForceClosed (cy : Cycle) (endTick : Option Tick) (s t : State) : Prop where
  idle : t.cycle = none ∧ t.hits = [] ∧ t.horizon = endTick ∧ t.pendingHold = []
  base : SameBase s t ∧ t.run = s.run ∧ t.cfg = s.cfg
  opened : ∀ c, ∀ o ∈ (t.chan c).openHit, (s.chan c).openHit = some o
  channels : ∀ c,
    let ch := s.chan c
    let cut := ∃ o, ch.openHit = some o ∧ 0 ≤ (o.start - cy.startTick).toInt ∧ ∀ e ∈ endTick, 0 < (e - o.start).toInt
    (¬cut → t.chan c = ch) ∧
      (cut →
        t.chan c =
          { ch with
            det := .armed, openHit := none, deadTime := none, sigma := ch.expected.map (· - 1)
            postRemaining := if ch.policy = .aroundHits then ch.post else ch.postRemaining
            cnt :=
              { ch.cnt with
                hitsClosed := min 4294967295 (ch.cnt.hitsClosed + 1)
                hitsTruncated := min 4294967295 (ch.cnt.hitsTruncated + 1) } })
  slot : ∀ k, cy.slot = some k →
    (t.slot k).inUse = false ∧
      (t.slot k).profile.map (·.cycleCount) = (s.slot k).profile.map fun p => min 4294967295 (p.cycleCount + 1)
  others : ∀ k, cy.slot ≠ some k → t.slot k = s.slot k

/-! ### Requests -/

/-- A request that arrives is executed at once: nRST is high, none waits, an entry of the control lane is free, and no close
or execution is in progress (R144, R156, R157). -/
structure Ready (s : State) : Prop where
  nrst : s.nrstLow = false
  queue : s.requests = []
  free : s.controlLane.length < 16
  held : s.held = false
  deferred : s.deferred = false

/-- The RESPONSE enters the control lane, and the arbiter chooses (R144, R146, R157). -/
def answered (tag : Tag) (code : Byte) (st : Status) (body : List Byte) (s : State) : State :=
  arbitrate { s with controlLane := s.controlLane ++ [.response ⟨tag, code, st, body⟩] }

/-- The request that a request row's command carries (R158, R171). -/
def requestOf (i : Instr) : Option TaggedRequest :=
  match i with
  | .readStatus tag => some ⟨tag, .readStatus⟩
  | .readCounters tag flag => some ⟨tag, .readCounters flag⟩
  | .readCountersClear tag => some ⟨tag, .readCounters 1⟩
  | .getConfig tag item index => some ⟨tag, .getConfig item index⟩
  | .setChannelEnable tag i v => some ⟨tag, .setConfig (.channelEnable i v)⟩
  | .setFloorTrack tag i v => some ⟨tag, .setConfig (.floorTrack i v)⟩
  | .setForwardingPolicy tag i v => some ⟨tag, .setConfig (.forwardingPolicy i v)⟩
  | .setPre tag i v => some ⟨tag, .setConfig (.pre i v)⟩
  | .setPost tag i v => some ⟨tag, .setConfig (.post i v)⟩
  | .setLossTimeout tag i v => some ⟨tag, .setConfig (.lossTimeout i v)⟩
  | .setStrokeMin tag i v => some ⟨tag, .setConfig (.strokeMin i v)⟩
  | .setStrokeMax tag i v => some ⟨tag, .setConfig (.strokeMax i v)⟩
  | .setPairSpan tag i v => some ⟨tag, .setConfig (.pairSpan i v)⟩
  | .setMaxCycleTicks tag i v => some ⟨tag, .setConfig (.maxCycleTicks i v)⟩
  | .setSettleTimeout tag i v => some ⟨tag, .setConfig (.settleTimeout i v)⟩
  | .setEventReports tag i v => some ⟨tag, .setConfig (.eventReports i v)⟩
  | .setLinkErrLimit tag i v => some ⟨tag, .setConfig (.linkErrLimit i v)⟩
  | .setClassMask tag i v => some ⟨tag, .setConfig (.classMask i v)⟩
  | .setClassAction tag i v => some ⟨tag, .setConfig (.classAction i v)⟩
  | .setHoldMs tag i v => some ⟨tag, .setConfig (.holdMs i v)⟩
  | .setRejectMs tag i v => some ⟨tag, .setConfig (.rejectMs i v)⟩
  | .writeSlotHeader tag slot mould => some ⟨tag, .writeSlotHeader slot mould⟩
  | .writeChannel tag slot channel fields => some ⟨tag, .writeChannel slot channel fields⟩
  | .writeZone tag slot zone fields => some ⟨tag, .writeZone slot zone fields⟩
  | .clearSlot tag slot => some ⟨tag, .clearSlot slot⟩
  | .ackZone tag slot zone => some ⟨tag, .ackZone slot zone⟩
  | .readSlot tag slot => some ⟨tag, .readSlot slot⟩
  | .readZones tag slot first last => some ⟨tag, .readZones slot first last⟩
  | .start tag => some ⟨tag, .start⟩
  | .stop tag => some ⟨tag, .stop⟩
  | .releaseHoldAll tag identifier => some ⟨tag, .releaseHold 1 identifier⟩
  | .releaseHoldOne tag flag identifier => some ⟨tag, .releaseHold flag identifier⟩
  | .injectHit tag ch off dur peak area => some ⟨tag, .injectHit ch off dur peak area⟩
  | .forceFault tag mask => some ⟨tag, .forceFault mask⟩
  | .restart tag => some ⟨tag, .restart⟩
  | .requestEnqueue payload => if payload.length ≤ Config.payloadMax then some (parseRequest payload) else none
  | .badRequest payload => if payload.length ≤ Config.payloadMax then some (parseRequest payload) else none
  | .powerOnReset | .pinReset | .nrstRelease | .strokeEdge | .strokeStillness | .strokeLostExpiry | .closedHorizonExpiry => none
  | .sampleFrame _ _ | .headFrameRelay _ | .headLinkBadFrame _ _ | .headLinkMisaddressed _ _ _ | .lossTimeout _ => none
  | .cycleTimeout | .settleTimeout | .holdTimerExpiry | .rejectTimerExpiry | .cycleStart _ _ | .phase _ | .cycleEnd => none
  | .markerFormatError _ | .headBoundEnqueue _ _ | .lineLinkBadFrame _ _ | .lineLinkMisaddressed _ _ _ => none
  | .pause | .resume | .lineTxStart | .lineTxComplete | .headTxStart | .headTxComplete | .tick => none

/-- A request may take a zone out of CRACK: an acknowledgement or a slot clear (R14, R15). -/
def Request.unlatches : Request → Bool
  | .ackZone _ _ => true
  | .clearSlot _ => true
  | _ => false

/-- The bytes of a line link frame, routed, carry a request that may take a zone out of CRACK. -/
def unlatchingFrame (f : SoundFrame) : Bool :=
  f.address == addressPart && f.kind == kindRequest && (parseRequest f.payload).req.unlatches

/-- A command may take a zone out of CRACK: a power-on or a pin reset, or the arrival of a request that does (R14, R15,
R17). -/
def mayUnlatch (i : Instr) : Bool :=
  match i with
  | .powerOnReset => true
  | .pinReset => true
  | .ackZone _ _ _ => true
  | .clearSlot _ _ => true
  | .requestEnqueue payload => (parseRequest payload).req.unlatches
  | .badRequest payload => (parseRequest payload).req.unlatches
  | .lineLinkBadFrame bytes ended => (parseFrame bytes ended).any unlatchingFrame
  | .lineLinkMisaddressed address kind payload => unlatchingFrame ⟨address, kind, payload⟩
  | _ => false

end Sys2Proof.Machine
end

