-- ==== Sys2Proof/Certificates/Slice0/Obligations.lean ====
section
/-! DEFINITION. The statements for the provers, in the order of OBLIGATIONS.json. Each docstring names the rule that the
statement formalises; a clause that rests on a choice of the model names its log entry. -/

open Sys2Proof Sys2Proof.Machine

/-! ### The machine as a whole -/

/-- A step takes the command at the front of the queue and runs it on the state with the queue's rest; on an empty queue the
part idles (the model's own queue: notes/assumptions/6.md). -/
def Obligations.StepTakesFront : Prop :=
  (∀ (c : Instr) (rest : List Instr) (s : State), s.pending = c :: rest → step s = exec c { s with pending := rest }) ∧
    ∀ s : State, s.pending = [] → step s = .next s

/-- No command touches the queue of waiting commands. The queue is the model's own (notes/assumptions/6.md, a DESIGN CHOICE),
and so it is that no reset empties it. -/
def Obligations.ExecKeepsQueue : Prop :=
  ∀ (c : Instr) (s t : State), exec c s = .next t → t.pending = s.pending

/-- While nRST is low nothing but a reset or the release of nRST has an effect (R18, R41, R42, R152; stroke edges:
notes/assumptions/3.md). The resets and the release complete from every state: POWER_ON_RESET leaves the machine as after
reset, PIN_RESET the same with nRST low, and NRST_RELEASE changes nRST alone (R18, R41). That nRST is high after
POWER_ON_RESET is the model's choice (notes/assumptions/7.md). -/
def Obligations.ResetsComplete : Prop :=
  (∀ (c : Instr) (s : State), s.nrstLow = true → c ≠ .powerOnReset → c ≠ .pinReset → c ≠ .nrstRelease → exec c s = .next s) ∧
  (∀ s : State,
      exec .powerOnReset s = .next { State.reset with pending := s.pending } ∧
        exec .pinReset s = .next { State.reset with pending := s.pending, nrstLow := true } ∧
        exec .nrstRelease s = .next { s with nrstLow := false })

/-- The power-on values: an empty table (R17), tick 0, STOPPED and IDLE (R41), the channels OFF (R60), BLOCKED (R79) and with
their default policy, pre and post (R149), the fault classes (R137), empty lanes and a FLOWING line (R151), the
configuration's defaults (section 9.5), and every counter 0 (R166). The model's own fields are named too: nRST high
(notes/assumptions/7.md), no command waiting (notes/assumptions/6.md), no choice put off (notes/assumptions/4.md), and
nothing new since an ALERT's start (notes/assumptions/22.md). -/
def Obligations.ResetValues : Prop :=
  (∀ k, State.reset.slot k = { profile := none, inUse := false }) ∧
    (State.reset.tick = 0 ∧ State.reset.strokes = [] ∧ State.reset.lastStroke = none ∧ State.reset.run = .stopped ∧
      State.reset.cycleState = .idle ∧ State.reset.horizon = none ∧ State.reset.hits = []) ∧
    (∀ c,
      State.reset.chan c =
        { intake := .off, expected := none, lastStamp := none, lossFrom := none, floor := 0, floorSum := 0, floorCount := 0,
          det := .blocked, openHit := none, deadTime := none, sigma := none, floorTrack := false, policy := .drop, pre := 2,
          post := 4, preQueue := [], postRemaining := 0, gapOwed := false, dropOwed := false,
          cnt := ⟨0, 0, 0, 0, 0, 0, 0⟩ }) ∧
    (∀ k : ClassIx,
      State.reset.classes[k] =
        { cond := false, forced := false, sticky := k == 7, masked := k != 0 && k != 1 && k != 3, action := .none }) ∧
    (State.reset.holdSet = [] ∧ State.reset.pendingHold = [] ∧ State.reset.holdExpiry = none ∧
      State.reset.rejectExpiry = none ∧ State.reset.alert = .idle ∧ State.reset.rePend = false ∧
      State.reset.news = ⟨0x80, 0, none⟩ ∧ State.reset.newsSince = ⟨0, 0, none⟩) ∧
    (State.reset.controlLane = [] ∧ State.reset.held = false ∧ State.reset.sampleLane = [] ∧ State.reset.reportLost = false ∧
      State.reset.paused = false ∧ State.reset.tx = none ∧ State.reset.requests = [] ∧ State.reset.headBound = [] ∧
      State.reset.headTx = none) ∧
    (State.reset.nrstLow = false ∧ State.reset.deferred = false ∧ State.reset.pending = []) ∧
    State.reset.cfg =
      { channelEnable := 0, lossTimeout := 2500, strokeMin := 400, strokeMax := 2000, pairSpan := 20,
        maxCycleTicks := 1500000, settleTimeout := 50000, eventReports := false, linkErrLimit := 16, holdMs := 0,
        rejectMs := 100 } ∧
    State.reset.cnt = ⟨0, 0, 0, 0, 0, 0, 0, 0, 0, 0⟩

/-- Every invariant below holds right after reset. -/
def Obligations.InvariantsAtReset : Prop :=
  CapacityInv State.reset ∧ QuietInv State.reset ∧ TableInv State.reset ∧ ChannelInv State.reset ∧ HoldInv State.reset ∧
    ConfigInv State.reset ∧ Accounted State.reset ∧ HitsInv State.reset ∧ Recent State.reset

/-- Every step keeps every queue and list within its capacity (R22, R30, R80, R143, R144, R155, R156). Every step keeps the
part-wide configuration items in their ranges (section 9.5). -/
def Obligations.CapacitiesKept : Prop :=
  (∀ s t : State, CapacityInv s → step s = .next t → CapacityInv t) ∧
  (∀ s t : State, ConfigInv s → step s = .next t → ConfigInv t)

/-- After every step nothing waits that could start: an IDLE transmitter of a FLOWING line has neither a PENDING alert nor a
frame in a lane, a waiting request finds the control lane full, and no head-bound frame waits for an IDLE head link
transmitter (R144, R146, R155, R157). The held and deferred marks are the model's own (notes/assumptions/4.md,
notes/assumptions/18.md). -/
def Obligations.QuietKept : Prop :=
  ∀ s t : State, QuietInv s → step s = .next t → QuietInv t

/-- Every step keeps the mould table sound: the in-use mark on the slot of the open cycle alone, legal and distinct mould
IDs, zones within their ranges, and a crack cycle exactly in CRACK (R2, R4, R6, R9). -/
def Obligations.TableKept : Prop :=
  ∀ s t : State, TableInv s → step s = .next t → TableInv t

/-- Every step keeps each channel sound: an expected tick and a loss timer exactly in LIVE, an open hit exactly in IN_HIT and
only in LIVE, the floor and its block in range, the forwarding stage within pre and post, and OFF exactly where the flag in
channel_enable is clear (R47, R49, R52, R57, R58, R140, R141). -/
def Obligations.ChannelsKept : Prop :=
  ∀ s t : State, ChannelInv s → step s = .next t → ChannelInv t

/-- Every step keeps the fault and action unit sound: the hold sets are sets of identifiers up to 135, an identifier pends
only while a cycle is open, the hold timer runs only while the press is held, and RESET stays masked and without action
(R125, R127, R128, R129, R136). -/
def Obligations.HoldsKept : Prop :=
  ∀ s t : State, HoldInv s → step s = .next t → HoldInv t

/-- CRACK is latched: with no request waiting, a command other than a power-on or pin reset and the arrival of an ACK_ZONE or
a CLEAR_SLOT leaves a CRACK zone in CRACK, with its definition and its crack cycle (R9, R10, R14, R15, R108, R109). -/
def Obligations.CrackLatched : Prop :=
  ∀ (c : Instr) (s t : State) (k : SlotIx) (z : ZoneIx) (r : Zone),
    s.requests = [] → mayUnlatch c = false → s.zone? k z = some r → r.rt.state = .crack → exec c s = .next t →
      ∃ r' : Zone,
        t.zone? k z = some r' ∧ r'.rt.state = .crack ∧ r'.rt.crackCycle = r.rt.crackCycle ∧ r'.defn = r.defn

/-- Every command keeps the open cycle's accounting of hits (R94). A CYCLE_START that finds the cycle IDLE is taken with an
empty pending list, which is kept too: every command keeps the pending list empty and no hit open while the cycle is IDLE,
and otherwise the list in its order of start tick and channel, its hits the open cycle's, and each open hit in the window
with the settled tick just before its start (R76, R77, R80, R81). Signed differences order ticks only within 2^31 (R18): the
state before lies within 2^30 ticks of its cycle's start and of its settled ticks. -/
def Obligations.AccountingKept : Prop :=
  (∀ (c : Instr) (s t : State), Accounted s → (s.cycle = none → s.hits = []) → exec c s = .next t → Accounted t) ∧
    ∀ (c : Instr) (s t : State), HitsInv s → ChannelInv s → Recent s → exec c s = .next t → HitsInv t

/-! ### Frames and layouts -/

/-- The form check takes exactly the payloads that a request has, and reads back the request with its tag (R158, R171,
R172). -/
def Obligations.RequestRoundTrip : Prop :=
  ∀ (r : TaggedRequest) (payload : List Byte), r.req.isMalformed = false →
    (parseRequest payload = r ↔ payload = encodeRequest r)

/-- The markers' payloads are exactly these: a payload is well formed as marker m when it is m's (R27, R170). -/
def Obligations.MarkerLayouts : Prop :=
  (∀ (m : MouldId) (n : CycleNumber) (payload : List Byte),
      parseMarker payload = some (.cycleStart m n) ↔
        payload =
          [1, m.extractLsb' 8 8, m.extractLsb' 0 8, n.extractLsb' 24 8, n.extractLsb' 16 8, n.extractLsb' 8 8,
            n.extractLsb' 0 8]) ∧
    (∀ (p : MarkerPhase) (payload : List Byte),
      parseMarker payload = some (.phase p) ↔
        payload =
          [2, match p with | .fill => 1 | .previb => 2 | .mainvib => 3 | .strip => 4 | .ret => 5]) ∧
    ∀ payload : List Byte, parseMarker payload = some .cycleEnd ↔ payload = [3]

/-- A receiver takes exactly the frames whose bytes are an envelope, at the end delimiter: address, kind, length, payload of
at most 250 bytes and the CRC over them (R42, R43, R152, R168). The payload lengths of what the part composes: EVENT 22
bytes, CYCLE 29 and 9 for each entry, ALERT 9, RESPONSE 3 and its body, a forwarded SAMPLE one more than it arrived with; a
frame is its payload and 5 bytes (R168, R169, R171, R173, R174). The fields of the EVENT, CYCLE and ALERT payloads and of a
zone entry in their order, high byte first, with an absent field's value and each bit of the flag bytes (R173, R174), and the
trailer's bits (R169). A RESPONSE is the tag, the code, the status of R171's table and the body (R171). The envelope and its
CRC byte by byte, and the address and kind of every frame sent: EVENT, CYCLE, RESPONSE, ALERT and a relayed HEAD to 0x30, a
forwarded SAMPLE to its channel, a head-bound HEAD to its head (R168). The outputs: each transmitter sends its frame, HOLD is
high exactly while the hold reason set is non-empty, REJECT exactly while the reject timer runs, TICK unless nRST is low
(R19, R127, R132). -/
def Obligations.FrameLayouts : Prop :=
  ((∀ (bytes : List Byte) (f : SoundFrame),
        parseFrame bytes .endDelimiter = some f ↔
          f.payload.length ≤ 250 ∧ bytes = envelope f.address f.kind f.payload) ∧
      ∀ (bytes : List Byte) (e : FrameEnd), e ≠ .endDelimiter → parseFrame bytes e = none) ∧
  ((∀ e : EventRec, e.payload.length = 22) ∧ (∀ r : Report, r.payload.length = 29 + 9 * r.zones.length) ∧
      (∀ a : AlertContents, a.payload.length = 9) ∧ (∀ r : Response, r.payload.length = 3 + r.body.length) ∧
      (∀ f : SampleOut, f.outPayload.length = f.payload.length + 1) ∧
      ∀ (a k : Byte) (p : List Byte), (envelope a k p).length = p.length + 5) ∧
  (let phaseByte (p : Phase) : Byte :=
    match p with | .none => 0 | .fill => 1 | .previb => 2 | .mainvib => 3 | .strip => 4 | .ret => 5
  let stateByte (z : ZoneState) : Byte := match z with | .clear => 0 | .watch => 1 | .crack => 2
  let flag (b : Bool) : BitVec 1 := if b then 1 else 0
  (∀ e : EventRec,
      e.payload =
        [BitVec.ofNat 8 e.zone.val] ++ bytes32 e.cycle ++ bytes32 e.start ++
          [BitVec.ofNat 8 e.primary.val, match e.mate with | none => 0xFF | some m => BitVec.ofNat 8 m.chan.val,
            match e.mate with | none => 0 | some m => BitVec.ofInt 8 m.delta] ++
          nat16 e.peak ++ nat24 e.area ++
          [match e.angle with | none => 0 | some a => BitVec.ofNat 8 a, phaseByte e.phase,
            (0 : BitVec 4) ++ flag e.injected ++ flag e.angle.isSome ++ flag e.scored ++ flag e.mate.isSome,
            BitVec.ofNat 8 e.duration, BitVec.ofNat 8 e.rise]) ∧
    (∀ z : ZoneEntry, z.count < 16 →
      z.bytes =
        [BitVec.ofNat 8 z.zone.val, BitVec.ofNat 8 z.tally.count, BitVec.ofNat 8 z.tally.ungated] ++ nat24 z.tally.areaSum ++
          nat16 z.evidence ++
          [(0 : BitVec 1) ++ flag z.blind ++ BitVec.ofNat 4 z.count ++ (stateByte z.state).setWidth 2]) ∧
    (∀ r : Report,
      r.payload =
        bytes32 r.number ++ bytes16 r.mould ++
          [match r.slot with | none => 0xFF | some k => BitVec.ofNat 8 k.val,
            (0 : BitVec 1) ++ flag r.flags.reportLost ++ flag r.flags.reject ++ flag r.flags.markerLoss ++
              flag r.flags.abandoned ++ flag r.flags.unknownMould ++ flag r.flags.timeout ++ flag r.flags.forced] ++
          nat32 r.counts.hitsClosed ++ nat32 r.counts.pairEvents ++ nat32 r.counts.singleEvents ++ nat32 r.counts.unlocated ++
          nat32 r.counts.noise ++ [BitVec.ofNat 8 r.zones.length] ++ (r.zones.map ZoneEntry.bytes).flatten) ∧
    (∀ a : AlertContents,
      a.payload =
        [a.live, a.sticky, a.changed, (0 : BitVec 7) ++ flag a.holdAsserted, BitVec.ofNat 8 a.holdSize,
            BitVec.ofNat 8 a.zoneAlerts] ++
          (match a.lastZone with
            | none => [0xFF, 0, 0]
            | some z => [BitVec.ofNat 8 z.slot.val, BitVec.ofNat 8 z.zone.val, stateByte z.state])) ∧
    (∀ f : SampleOut,
      f.outPayload =
        f.payload ++ [(0 : BitVec 4) ++ flag f.dropBefore ++ flag f.gapBefore ++ flag f.inHit ++ flag f.hitStart]) ∧
    ∀ r : Response,
      let status : Byte :=
        match r.status with
        | .ok => 0 | .badRequest => 1 | .badValue => 2 | .noSlot => 3 | .inUse => 4 | .zoneLatched => 5
        | .duplicateId => 6 | .notOpen => 7
      r.payload = [(0 : BitVec 4) ++ r.tag, r.code, status] ++ r.body) ∧
  ((∀ (a k : Byte) (p : List Byte),
      let covered := [a, k, BitVec.ofNat 8 p.length] ++ p
      envelope a k p = covered ++ [(crc16 covered).extractLsb' 8 8, (crc16 covered).extractLsb' 0 8]) ∧
    crc16 [] = 0xFFFF ∧
    (∀ (bytes : List Byte) (b : Byte),
      let shift (r : BitVec 16) : BitVec 16 := if r.getLsbD 15 then (r <<< 1) ^^^ 0x1021 else r <<< 1
      crc16 (bytes ++ [b]) =
        (List.range 8).foldl (fun r _ => shift r) (crc16 bytes ^^^ (b ++ (0 : BitVec 8))))) ∧
  ((∀ e, (ControlFrame.event e).bytes = envelope 0x30 0x05 e.payload) ∧
    (∀ r, (ControlFrame.cycle r).bytes = envelope 0x30 0x06 r.payload) ∧
    (∀ r, (ControlFrame.response r).bytes = envelope 0x30 0x04 r.payload) ∧
    (∀ p, (ControlFrame.head p).bytes = envelope 0x30 0x08 p) ∧
    (∀ a, (LineFrame.alert a).bytes = envelope 0x30 0x07 a.payload) ∧
    (∀ f, (LineFrame.control f).bytes = f.bytes) ∧
    (∀ f, (LineFrame.sample f).bytes = envelope (BitVec.ofNat 8 f.chan.val) 0x01 f.outPayload) ∧
    ∀ f : HeadFrame, f.bytes = envelope (0x10 + BitVec.ofNat 8 f.head.val) 0x08 f.payload) ∧
  ∀ s : State,
    (outputs s).line = s.tx.map LineFrame.bytes ∧ (outputs s).head = s.headTx.map HeadFrame.bytes ∧
      ((outputs s).hold = true ↔ s.holdSet ≠ []) ∧ ((outputs s).reject = true ↔ s.rejectExpiry ≠ none) ∧
      ((outputs s).tickRuns = true ↔ s.nrstLow = false)

/-- An accepted sample payload has 4 to 34 bytes, an even number, and stands for sixteen samples of at most 4095; sixteen
literal items read back as themselves. A stamp and some items of 16 bits are accepted exactly when no literal item has one of
its three upper value bits set and the items expand in order to sixteen samples, a literal item to one sample of its low
twelve bits and a run item to r + 1 of them; those are the samples (R46, R169). -/
def Obligations.SamplePayloads : Prop :=
  (∀ (payload : List Byte) (stamp : Stamp) (samples : List Nat),
      decodeSamples payload = some (stamp, samples) →
        4 ≤ payload.length ∧ payload.length ≤ 34 ∧ payload.length % 2 = 0 ∧ samples.length = 16 ∧
          ∀ v ∈ samples, v ≤ 4095) ∧
    (∀ (stamp : Stamp) (samples : List Nat),
      samples.length = 16 → (∀ v ∈ samples, v ≤ 4095) →
        decodeSamples (bytes16 stamp ++ (samples.map nat16).flatten) = some (stamp, samples)) ∧
    ∀ (stamp : Stamp) (items : List (BitVec 16)) (samples : List Nat),
      decodeSamples (bytes16 stamp ++ (items.map bytes16).flatten) = some (stamp, samples) ↔
        (∀ w ∈ items, w.getLsbD 15 = false → w.extractLsb' 12 3 = 0) ∧
          samples =
            (items.map fun w =>
              List.replicate (if w.getLsbD 15 then (w.extractLsb' 12 3).toNat + 1 else 1)
                (w.extractLsb' 0 12).toNat).flatten ∧
          samples.length = 16

/-! ### Time and stroke -/

/-- A tick advances the counter by one modulo 2^32 and touches nothing else (R18). STROKE_STILLNESS empties the history
65,536 ticks after the last accepted edge, CLOSED_HORIZON_EXPIRY makes the horizon absent 65,536 ticks after it,
HOLD_TIMER_EXPIRY at the hold timer's expiry empties both hold sets, and REJECT_TIMER_EXPIRY ends the pulse (R22, R29, R129,
R132). Taken before they are due they do nothing (notes/assumptions/5.md). -/
def Obligations.TickAndExpiries : Prop :=
  ((∀ s : State, s.nrstLow = false → exec .tick s = .next { s with tick := s.tick + 1 }) ∧
      (4294967295 : Tick) + 1 = 0) ∧
  ((∀ (s : State) (l : Tick),
        s.nrstLow = false → s.lastStroke = some l →
          exec .strokeStillness s =
            .next (if 65536 ≤ (s.tick - l).toInt then { s with strokes := [], lastStroke := none } else s)) ∧
      (∀ (s : State) (h : Tick),
        s.nrstLow = false → s.horizon = some h →
          exec .closedHorizonExpiry s = .next (if 65536 ≤ (s.tick - h).toInt then { s with horizon := none } else s)) ∧
      (∀ (s : State) (e : Tick),
        s.nrstLow = false → s.holdExpiry = some e →
          exec .holdTimerExpiry s =
            .next (if 0 ≤ (s.tick - e).toInt then { s with holdSet := [], pendingHold := [], holdExpiry := none } else s)) ∧
      (∀ (s : State) (e : Tick),
        s.nrstLow = false → s.rejectExpiry = some e →
          exec .rejectTimerExpiry s = .next (if 0 ≤ (s.tick - e).toInt then { s with rejectExpiry := none } else s)) ∧
      (∀ s : State, s.nrstLow = false → s.lastStroke = none → exec .strokeStillness s = .next s) ∧
      (∀ s : State, s.nrstLow = false → s.horizon = none → exec .closedHorizonExpiry s = .next s) ∧
      (∀ s : State, s.nrstLow = false → s.holdExpiry = none → exec .holdTimerExpiry s = .next s) ∧
      ∀ s : State, s.nrstLow = false → s.rejectExpiry = none → exec .rejectTimerExpiry s = .next s)

/-- The extended stamp is the latest tick not after the current one whose low 16 bits equal the stamp (R20). -/
def Obligations.StampExtended : Prop :=
  ∀ (now : Tick) (stamp : Stamp),
    (extendStamp now stamp).setWidth 16 = stamp ∧
      (now - extendStamp now stamp).toNat = (now.toNat + 65536 - stamp.toNat) % 65536 ∧
      ∀ e : Tick, e.setWidth 16 = stamp → (now - extendStamp now stamp).toNat ≤ (now - e).toNat

/-- An edge less than stroke_min after the last accepted one is counted as a bounce and does nothing else; any other is
accepted, enters the history of eight with a VALID period exactly when it lies within the limits, and ends STROKE_LOST
(R21, R22, R25). -/
def Obligations.StrokeEdges : Prop :=
  (∀ (s : State) (l : Tick),
      s.nrstLow = false → s.lastStroke = some l → (s.tick - l).toInt < s.cfg.strokeMin →
        exec .strokeEdge s =
          .next { s with cnt := { s.cnt with strokeBounces := min 65535 (s.cnt.strokeBounces + 1) } }) ∧
    (∀ (s : State) (l : Tick),
      s.nrstLow = false → s.lastStroke = some l → (s.cfg.strokeMin : Int) ≤ (s.tick - l).toInt →
        exec .strokeEdge s =
          .next
            (signal clsStrokeLost false
              { s with
                lastStroke := some s.tick
                strokes := lastEight (s.strokes ++
                  [⟨s.tick, if (s.tick - l).toInt ≤ s.cfg.strokeMax then some (s.tick - l).toInt.toNat else none⟩]) })) ∧
    (∀ s : State,
      s.nrstLow = false → s.lastStroke = none →
        exec .strokeEdge s =
          .next
            (signal clsStrokeLost false
              { s with lastStroke := some s.tick, strokes := lastEight (s.strokes ++ [⟨s.tick, none⟩]) })) ∧
    ∀ l : List StrokeEntry, lastEight l = l.drop (l.length - 8)

/-- The stroke angle of tick t: from the latest entry at or before t, floor((t − s) × 256 / p) held at 255, and absent when
that entry's period is INVALID or there is no such entry (R24). -/
def Obligations.StrokeAngle : Prop :=
  (∀ (s : State) (older newer : List StrokeEntry) (e : StrokeEntry) (t : Tick),
      s.strokes = older ++ e :: newer → 0 ≤ (t - e.tick).toInt → (∀ x ∈ newer, (t - x.tick).toInt < 0) →
        angleAt s t = e.period.map fun p => min 255 ((t - e.tick).toInt.toNat * 256 / p)) ∧
    ∀ (s : State) (t : Tick), (∀ x ∈ s.strokes, (t - x.tick).toInt < 0) → angleAt s t = none

/-- STROKE_LOST rises more than stroke_max ticks after the later of the last accepted edge and the PHASE marker that began
the current run of VIB phases, and only in such a run (R25). Taken before it is due the expiry does nothing
(notes/assumptions/5.md). -/
def Obligations.StrokeLostRises : Prop :=
  (∀ (s : State) (cy : Cycle) (older run : List PhaseEntry) (e : PhaseEntry),
      s.nrstLow = false → s.cycle = some cy → cy.log = older ++ e :: run →
        (∀ x ∈ older.getLast?, x.phase ≠ .previb ∧ x.phase ≠ .mainvib) →
        (∀ x ∈ e :: run, x.phase = .previb ∨ x.phase = .mainvib) →
        exec .strokeLostExpiry s =
          .next
            (if (s.cfg.strokeMax : Int) <
                (s.tick -
                  match s.lastStroke with
                  | none => e.tick
                  | some l => if 0 < (l - e.tick).toInt then l else e.tick).toInt
            then signal clsStrokeLost true s
            else s)) ∧
    (∀ (s : State) (cy : Cycle) (x : PhaseEntry),
      s.nrstLow = false → s.cycle = some cy → cy.log.getLast? = some x → x.phase ≠ .previb → x.phase ≠ .mainvib →
        exec .strokeLostExpiry s = .next s) ∧
    (∀ (s : State) (cy : Cycle),
      s.nrstLow = false → s.cycle = some cy → cy.log = [] → exec .strokeLostExpiry s = .next s) ∧
    ∀ s : State, s.nrstLow = false → s.cycle = none → exec .strokeLostExpiry s = .next s

/-! ### Faults, actions and holds -/

/-- A change of a class's condition (R121, R122): no rise and no fall changes the condition alone; a rise sets the sticky and
changed bits and, unmasked, carries out the action and causes the alert; a fall sets the changed bit. A momentary cause is a
rise and a fall at one instant, and nothing on a forced class. A cause of the alert makes IDLE PENDING and sets the re-pend
mark in SENDING (R134). A level reported or a momentary cause raised is that change and then the arbiter's choice (R146). The
action comes before the alert is made pending (notes/assumptions/23.md). -/
def Obligations.FaultTransitions : Prop :=
  (∀ (k : ClassIx) (b : Bool) (s : State),
      let c := s.classes[k]
      let marked (s : State) : State :=
        { s with
          news := { s.news with changed := s.news.changed ||| BitVec.ofNat 8 (2 ^ k.val) }
          newsSince := { s.newsSince with changed := s.newsSince.changed ||| BitVec.ofNat 8 (2 ^ k.val) } }
      (c.forced = true ∨ c.cond = b → setCond k b s = { s with classes := s.classes.set k { c with cond := b } }) ∧
        (c.forced = false → c.cond = false → b = true →
          setCond k b s =
            let t := marked { s with classes := s.classes.set k { c with cond := true, sticky := true } }
            if c.masked then t else alertCause (act c.action (128 + k.val) t)) ∧
        (c.forced = false → c.cond = true → b = false →
          setCond k b s = marked { s with classes := s.classes.set k { c with cond := false } })) ∧
    (∀ s : State, s.alert = .idle → alertCause s = { s with alert := .pending }) ∧
    (∀ s : State, s.alert = .pending → alertCause s = s) ∧
    (∀ s : State, s.alert = .sending → alertCause s = { s with rePend := true }) ∧
    (∀ (k : ClassIx) (b : Bool) (s : State),
      signal k b s = arbitrate (setCond k b s) ∧ raise k s = arbitrate (momentary k s)) ∧
    ∀ (k : ClassIx) (s : State),
      let c := s.classes[k]
      let risen : State :=
        { s with
          classes := s.classes.set k { c with sticky := true }
          news := { s.news with changed := s.news.changed ||| BitVec.ofNat 8 (2 ^ k.val) }
          newsSince := { s.newsSince with changed := s.newsSince.changed ||| BitVec.ofNat 8 (2 ^ k.val) } }
      (c.forced = true → c.cond = false → momentary k s = s) ∧
        (c.forced = false → c.cond = false →
          momentary k s = if c.masked then risen else alertCause (act c.action (128 + k.val) risen))

/-- The actions (R126, R128, R129, R132, R133): NONE and ALERT change no output, REJECT runs the pulse for reject_ms and
flags the open cycle, HOLD_NOW adds the identifier to the hold reason set and, unless hold_ms is 0, starts or restarts the
hold timer, and HOLD_AT_END adds it to the pending hold set, or acts as HOLD_NOW with the cycle IDLE. The close notice moves
the pending hold set into the hold reason set; the hold timer starts or restarts only if an identifier moved and hold_ms is
not 0 (R128, R129). -/
def Obligations.FaultActions : Prop :=
  (∀ (id : Nat) (s : State),
      act .none id s = s ∧ act .alert id s = s ∧
        act .reject id s =
          { s with
            rejectExpiry := some (s.tick + BitVec.ofNat 32 (50 * s.cfg.rejectMs))
            cycle := s.cycle.map fun cy => { cy with flags := { cy.flags with reject := true } } } ∧
        ((∀ n, n ∈ (act .holdNow id s).holdSet ↔ n = id ∨ n ∈ s.holdSet) ∧
          act .holdNow id s =
            { s with
              holdSet := (act .holdNow id s).holdSet
              holdExpiry :=
                if s.cfg.holdMs = 0 then s.holdExpiry else some (s.tick + BitVec.ofNat 32 (50 * s.cfg.holdMs)) }) ∧
        (s.cycle = none → act .holdAtEnd id s = act .holdNow id s) ∧
        (s.cycle ≠ none →
          (∀ n, n ∈ (act .holdAtEnd id s).pendingHold ↔ n = id ∨ n ∈ s.pendingHold) ∧
            act .holdAtEnd id s = { s with pendingHold := (act .holdAtEnd id s).pendingHold })) ∧
  (∀ s : State,
      (∀ n, n ∈ (closeNotice s).holdSet ↔ n ∈ s.holdSet ∨ n ∈ s.pendingHold) ∧
        closeNotice s =
          { s with
            holdSet := (closeNotice s).holdSet
            pendingHold := []
            holdExpiry :=
              if s.pendingHold = [] ∨ s.cfg.holdMs = 0 then s.holdExpiry
              else some (s.tick + BitVec.ofNat 32 (50 * s.cfg.holdMs)) })

/-! ### The line link transmitter -/

/-- The arbiter's choice (R134, R146, R148): none while it waits for a close or an execution (notes/assumptions/4.md), while
PAUSED or while a frame is in transmission; otherwise the PENDING alert with its contents fixed, else the head of the control
lane, else the head of the sample lane. -/
def Obligations.ArbiterChoice : Prop :=
  ∀ s : State,
    (s.deferred = true ∨ s.paused = true ∨ s.tx ≠ none → arbitrate s = s) ∧
      (s.deferred = false → s.paused = false → s.tx = none →
        (s.alert = .pending →
          ∃ a : AlertContents,
            arbitrate s = { s with tx := some (.alert a), alert := .sending, rePend := false, newsSince := ⟨0, 0, none⟩ } ∧
              a.changed = s.news.changed ∧ a.zoneAlerts = s.news.zoneAlerts ∧ a.lastZone = s.news.lastZone ∧
              a.holdAsserted = !s.holdSet.isEmpty ∧ a.holdSize = s.holdSet.length ∧
              ∀ k : ClassIx,
                a.live.getLsbD k.val = (s.classes[k].cond || s.classes[k].forced) ∧
                  a.sticky.getLsbD k.val = s.classes[k].sticky) ∧
          (s.alert ≠ .pending →
            (∀ f rest, s.controlLane = f :: rest →
                arbitrate s = { s with tx := some (.control f), controlLane := rest }) ∧
              (∀ f rest, s.controlLane = [] → s.sampleLane = f :: rest →
                arbitrate s = { s with tx := some (.sample f), sampleLane := rest }) ∧
              (s.controlLane = [] → s.sampleLane = [] → arbitrate s = s)))

/-- PAUSE, RESUME, LINE_TX_START and LINE_TX_COMPLETE (R135, R146, R148, R157): the pause state, the end of a transmission
with what an ALERT's completion clears, then the arbiter's choice and management's test. LINE_TX_COMPLETE with an IDLE
transmitter does nothing (notes/assumptions/24.md). -/
def Obligations.TransmitterCommands : Prop :=
  ∀ s : State, s.nrstLow = false →
    exec .pause s = .next { s with paused := true } ∧
      exec .resume s = .next (serveRequests (arbitrate { s with paused := false })) ∧
      exec .lineTxStart s = .next (serveRequests (arbitrate s)) ∧
      (s.tx = none → exec .lineTxComplete s = .next s) ∧
      (∀ a, s.tx = some (.alert a) →
        exec .lineTxComplete s =
          .next
            (serveRequests
              (arbitrate
                { s with
                  tx := none, news := s.newsSince, newsSince := ⟨0, 0, none⟩, rePend := false
                  alert := if s.rePend then .pending else .idle }))) ∧
      (∀ f, s.tx = some (.control f) → exec .lineTxComplete s = .next (serveRequests (arbitrate { s with tx := none }))) ∧
      ∀ f, s.tx = some (.sample f) → exec .lineTxComplete s = .next (serveRequests (arbitrate { s with tx := none }))

/-- Management's test (R157): nothing without a waiting request or a free entry; otherwise the oldest request is taken and
executed whole, and the test is made again. An execution holds an entry, carries the request out, and its RESPONSE fills the
entry before the arbiter chooses. When the test is made and when the arbiter chooses is the model's reading
(notes/assumptions/4.md, notes/assumptions/18.md), and so it is that at the end of an execution the arbiter chooses before
the next request is taken (notes/assumptions/30.md). When the test is made and when the arbiter chooses is the model's
reading (notes/assumptions/4.md, notes/assumptions/18.md). -/
def Obligations.ManagementTest : Prop :=
  (∀ s : State, s.requests = [] → serveRequests s = s) ∧
    (∀ s : State, s.controlFree = 0 → serveRequests s = s) ∧
    (∀ (s : State) (r : TaggedRequest) (rest : List TaggedRequest),
      s.requests = r :: rest → s.controlFree ≠ 0 →
        serveRequests s = serveRequests (execute r { s with requests := rest })) ∧
    ∀ (r : TaggedRequest) (s : State),
      let a := perform r.req { s with held := true, deferred := true }
      execute r s =
        answered r.tag r.req.code a.status a.body { a.state with held := false, deferred := false }

/-- An offered CYCLE frame enters the control lane when an entry is free, and a report that carries REPORT_LOST clears the
report lost mark; otherwise it is lost, counted and marked, and OVERFLOW is raised (R118, R144, R145). A frame offered to the
sample lane enters it with its trailer flags and clears what its channel owed, or is dropped, counted and owed, with OVERFLOW
raised, when sixty-four wait (R142, R143). An event is offered while event_reports is on: it enters when five entries are
free, or is dropped and counted (R93). The forwarding stage (R138, R139, R140, R141): DROP discards a frame, ALL offers it,
AROUND_HITS offers a frame with hit started behind the whole pre-trigger queue, a frame with in hit or hit closed, or a post
frame, and queues any other, the queue keeping its pre latest and the gap mark of what it discards; then post remaining is 0
in a hit, or post after a hit closed. An end of a hit without a frame sets post remaining to post under the AROUND_HITS in
force at that instant (notes/assumptions/27.md). -/
def Obligations.LaneOffers : Prop :=
  (∀ (r : Report) (s : State),
      (s.controlFill < 16 →
        offerReport r s =
          arbitrate
            { s with
              controlLane := s.controlLane ++ [.cycle r]
              reportLost := s.reportLost && !r.flags.reportLost }) ∧
        (16 ≤ s.controlFill →
          offerReport r s =
            raise clsOverflow
              { s with cnt := { s.cnt with reportsLost := min 65535 (s.cnt.reportsLost + 1) }, reportLost := true })) ∧
  (∀ (c : Chan) (payload : List Byte) (gap start inHit : Bool) (s : State),
      let ch := s.chan c
      (s.sampleLane.length < 64 →
        offerSample c payload gap start inHit s =
          arbitrate
            { s with
              chans := s.chans.set c { ch with gapOwed := false, dropOwed := false }
              sampleLane := s.sampleLane ++ [⟨c, payload, start, inHit, gap || ch.gapOwed, ch.dropOwed⟩] }) ∧
        (64 ≤ s.sampleLane.length →
          offerSample c payload gap start inHit s =
            raise clsOverflow
              { s with
                chans := s.chans.set c
                  { ch with
                    dropOwed := true
                    gapOwed := gap || ch.gapOwed
                    cnt := { ch.cnt with forwardedDrops := min 4294967295 (ch.cnt.forwardedDrops + 1) } } })) ∧
  (∀ (e : EventRec) (s : State),
      (s.cfg.eventReports = false → offerEvent e s = s) ∧
        (s.cfg.eventReports = true → s.controlFill ≤ 11 →
          offerEvent e s = arbitrate { s with controlLane := s.controlLane ++ [.event e] }) ∧
        (s.cfg.eventReports = true → 11 < s.controlFill →
          offerEvent e s =
            { s with cnt := { s.cnt with eventDrops := min 4294967295 (s.cnt.eventDrops + 1) } })) ∧
  (∀ (c : Chan) (payload : List Byte) (gap : Bool) (m : FrameMarks) (s : State),
      let ch := s.chan c
      let put (t : State) (f : Channel → Channel) : State := { t with chans := t.chans.set c (f (t.chan c)) }
      (ch.policy = .drop → forward c payload gap m s = s) ∧
        (ch.policy = .all → forward c payload gap m s = offerSample c payload gap m.hitStarted m.inHit s) ∧
        (ch.policy = .aroundHits →
          let judged : State :=
            if m.hitStarted then
              offerSample c payload gap true m.inHit
                (ch.preQueue.foldl (fun t q => offerSample c q.payload q.gapBefore false false t)
                  (put s fun ch => { ch with preQueue := [] }))
            else if m.inHit || m.hitClosed then offerSample c payload gap false m.inHit s
            else if 0 < ch.postRemaining then
              offerSample c payload gap false false (put s fun ch => { ch with postRemaining := ch.postRemaining - 1 })
            else put s (Channel.enqueuePre ⟨payload, gap⟩)
          forward c payload gap m s =
            put judged fun ch =>
              { ch with
                postRemaining :=
                  if ch.det = .inHit then 0 else if m.hitClosed then ch.post else ch.postRemaining })) ∧
  ∀ (q : QueuedSample) (ch : Channel),
    (∃ cut keep : List QueuedSample,
        ch.preQueue ++ [q] = cut ++ keep ∧ keep.length = min (ch.preQueue.length + 1) ch.pre ∧
          ch.enqueuePre q = { ch with preQueue := keep, gapOwed := ch.gapOwed || cut.any (·.gapBefore) }) ∧
      ch.hitEnded = { ch with postRemaining := if ch.policy = .aroundHits then ch.post else ch.postRemaining }

/-! ### The links -/

/-- HEAD_FRAME_RELAY enters the control lane unchanged when at least five entries are free, and is otherwise dropped and
counted (R45, R144). HEAD_BOUND_ENQUEUE joins the queue and starts at once on an IDLE head link, or is dropped and counted
when four wait; HEAD_TX_START starts the oldest on an IDLE transmitter; HEAD_TX_COMPLETE ends a transmission and starts the
next (R155); on an IDLE transmitter it starts the next as well (notes/assumptions/24.md). The frame's row stands for its
whole arrival (notes/assumptions/8.md). -/
def Obligations.HeadFrames : Prop :=
  (∀ (payload : List Byte) (s : State), s.nrstLow = false → payload.length ≤ 250 →
      (s.controlFill ≤ 11 →
        exec (.headFrameRelay payload) s = .next (arbitrate { s with controlLane := s.controlLane ++ [.head payload] })) ∧
        (11 < s.controlFill →
          exec (.headFrameRelay payload) s =
            .next { s with cnt := { s.cnt with headRelayDrops := min 65535 (s.cnt.headRelayDrops + 1) } })) ∧
  ((∀ (head : Fin 4) (payload : List Byte) (s : State), s.nrstLow = false → payload.length ≤ 250 →
        (s.headBound.length < 4 → s.headTx ≠ none →
          exec (.headBoundEnqueue head payload) s = .next { s with headBound := s.headBound ++ [⟨head, payload⟩] }) ∧
          (s.headBound = [] → s.headTx = none →
            exec (.headBoundEnqueue head payload) s = .next { s with headTx := some ⟨head, payload⟩ }) ∧
          (4 ≤ s.headBound.length →
            exec (.headBoundEnqueue head payload) s =
              .next { s with cnt := { s.cnt with headRelayDrops := min 65535 (s.cnt.headRelayDrops + 1) } })) ∧
      (∀ (s : State) (f : HeadFrame) (rest : List HeadFrame), s.nrstLow = false → s.headBound = f :: rest →
        (s.headTx = none → exec .headTxStart s = .next { s with headTx := some f, headBound := rest }) ∧
          exec .headTxComplete s = .next { s with headTx := some f, headBound := rest }) ∧
      (∀ s : State, s.nrstLow = false → s.headTx ≠ none → exec .headTxStart s = .next s) ∧
      ∀ s : State, s.nrstLow = false → s.headBound = [] →
        exec .headTxStart s = .next s ∧ exec .headTxComplete s = .next { s with headTx := none })

/-- A framing error or a CRC error is counted; on the head link LINK_ERR is then judged against link_err_limit (R42, R43,
R152). A sound frame of an address and kind that no receiver hands on, and a marker that is not well formed, cost one count
of the misaddressed counter and nothing else (R27, R44, R153). The row stands for the whole reception
(notes/assumptions/8.md, notes/assumptions/19.md). -/
def Obligations.BadFrames : Prop :=
  (∀ (bytes : List Byte) (e : FrameEnd) (s : State), s.nrstLow = false → isBadFrame bytes e = true →
      exec (.headLinkBadFrame bytes e) s =
          .next
            (signal clsLinkErr (decide (s.cfg.linkErrLimit ≤ min 65535 (s.cnt.headLinkCrc + 1)))
              { s with cnt := { s.cnt with headLinkCrc := min 65535 (s.cnt.headLinkCrc + 1) } }) ∧
        exec (.lineLinkBadFrame bytes e) s =
          .next { s with cnt := { s.cnt with lineLinkCrc := min 65535 (s.cnt.lineLinkCrc + 1) } }) ∧
  (∀ (i : Instr) (s : State), s.nrstLow = false → wellFormed i = true →
      (∃ a k p, i = .headLinkMisaddressed a k p ∨ i = .lineLinkMisaddressed a k p ∨ i = .markerFormatError p) →
        exec i s = .next { s with cnt := { s.cnt with misaddressed := min 65535 (s.cnt.misaddressed + 1) } })

/-! ### Sample intake and detection -/

/-- The SAMPLE frames that are not accepted (R46, R48, R52): a format error counts on its channel; a sound frame for an OFF
channel counts as misaddressed; a frame not wholly due, one that steps back behind the last accepted stamp, and one behind a
LIVE channel's expected tick count as stale. Nothing else changes. R52's test of the last stamp is read as
notes/assumptions/14.md says. -/
def Obligations.SampleFramesDropped : Prop :=
  ∀ (c : Chan) (payload : List Byte) (s : State), s.nrstLow = false → payload.length ≤ 250 →
    (decodeSamples payload = none →
      exec (.sampleFrame c payload) s =
        .next
          { s with
            chans := s.chans.set c
              { s.chan c with
                cnt := { (s.chan c).cnt with formatErrors := min 65535 ((s.chan c).cnt.formatErrors + 1) } } }) ∧
      ∀ (stamp : Stamp) (samples : List Nat), decodeSamples payload = some (stamp, samples) →
        ((s.chan c).intake = .off →
          exec (.sampleFrame c payload) s =
            .next { s with cnt := { s.cnt with misaddressed := min 65535 (s.cnt.misaddressed + 1) } }) ∧
          ((s.chan c).intake ≠ .off →
            (let e := extendStamp s.tick stamp
            0 ≤ (e + 15 - s.tick).toInt ∨
              (∃ l, (s.chan c).lastStamp = some l ∧ 0 ≤ (s.tick - l).toInt ∧ (s.tick - l).toInt < 65536 ∧
                0 ≤ (l - e).toInt) ∨
              ((s.chan c).intake = .live ∧ ∃ x, (s.chan c).expected = some x ∧ 32768 ≤ (stamp - x.setWidth 16).toNat)) →
            exec (.sampleFrame c payload) s =
              .next
                { s with
                  chans := s.chans.set c
                    { s.chan c with cnt := { (s.chan c).cnt with stale := min 65535 ((s.chan c).cnt.stale + 1) } } })

/-- A sound frame for a channel that is not OFF, and that meets none of R52's three tests, is accepted (R50, R52, R53): the
channel is LIVE, its expected tick is sixteen past the extended stamp, its loss timer restarts, the frame and its gap are
counted, and no other channel changes; nor do the time base, the stroke history, the run state and the configuration. The
frame is processed whole in this order (R55): its gap, its acceptance, CHANNEL_LOST judged for a channel that was LOST (R51),
its sixteen samples from the extended stamp on, its forwarding. A gap truncates and hands on the open hit, or with none open
arms the detector, which is then not DEAD (R71, R77); and the DEFINED zones that use the channel join the blind set when the
missing ticks include a tick of the window (R54). R52's test of the last stamp is read as notes/assumptions/14.md says. The
resolution test comes before the settle test at one occasion (notes/assumptions/26.md). The truncated hit is handed on with
the settled tick already raised, before the tests of that advance, which is the model's order (notes/assumptions/17.md). -/
def Obligations.SampleFrameAccepted : Prop :=
  (∀ (c : Chan) (payload : List Byte) (stamp : Stamp) (samples : List Nat) (s : State),
    s.nrstLow = false → decodeSamples payload = some (stamp, samples) → (s.chan c).intake ≠ .off →
      (let e := extendStamp s.tick stamp
      ¬(0 ≤ (e + 15 - s.tick).toInt ∨
          (∃ l, (s.chan c).lastStamp = some l ∧ 0 ≤ (s.tick - l).toInt ∧ (s.tick - l).toInt < 65536 ∧
            0 ≤ (l - e).toInt) ∨
          ((s.chan c).intake = .live ∧ ∃ x, (s.chan c).expected = some x ∧ 32768 ≤ (stamp - x.setWidth 16).toNat))) →
        (let ch := s.chan c
        let e := extendStamp s.tick stamp
        let d := match ch.intake, ch.expected with | .live, some x => (stamp - x.setWidth 16).toNat | _, _ => 0
        let u : State := if d = 0 then s else takeGap c d e s
        let accepted : State :=
          { u with
            chans := u.chans.set c
              { u.chan c with
                intake := .live, expected := some (e + 16), lastStamp := some e, lossFrom := some s.tick
                cnt :=
                  { (u.chan c).cnt with framesAccepted := min 4294967295 ((u.chan c).cnt.framesAccepted + 1) } } }
        let judged : State :=
          if ch.intake = .lost then
            signal clsChannelLost (decide (∃ x, accepted.enabled x = true ∧ (accepted.chan x).intake = .lost)) accepted
          else accepted
        let taken := takeSamples c samples e (judged, ⟨false, false, d != 0 && ch.openHit.isSome⟩)
        exec (.sampleFrame c payload) s =
          .next (forward c payload (d != 0 || ch.intake == .lost) taken.2 taken.1)) ∧
        ∃ t : State,
          exec (.sampleFrame c payload) s = .next t ∧ (t.chan c).intake = .live ∧
            (t.chan c).expected = some (extendStamp s.tick stamp + 16) ∧
            (t.chan c).lastStamp = some (extendStamp s.tick stamp) ∧ (t.chan c).lossFrom = some s.tick ∧
            (t.chan c).cnt.framesAccepted = min 4294967295 ((s.chan c).cnt.framesAccepted + 1) ∧
            (t.chan c).cnt.missing =
              (match (s.chan c).intake, (s.chan c).expected with
                | .live, some x =>
                  if stamp = x.setWidth 16 then (s.chan c).cnt.missing
                  else min 4294967295 ((s.chan c).cnt.missing + (stamp - x.setWidth 16).toNat)
                | _, _ => (s.chan c).cnt.missing) ∧
            (∀ d, d ≠ c → t.chan d = s.chan d) ∧ SameBase s t ∧ t.run = s.run ∧ t.cfg = s.cfg ∧
            ∀ k, s.slotInUse ≠ some k → t.slot k = s.slot k) ∧
  (∀ (c : Chan) (d : Nat) (e x : Tick) (s : State), (s.chan c).expected = some x →
    let ch := { s.chan c with cnt := { (s.chan c).cnt with missing := min 4294967295 ((s.chan c).cnt.missing + d) } }
    let armed : State := { s with chans := s.chans.set c { ch with det := .armed, deadTime := none } }
    let u : State :=
      match ch.openHit with
      | none => armed
      | some o =>
        settledMoved
          (handOn
            { chan := c, cycle := o.cycle, start := o.start, duration := o.duration, peak := o.peak,
              rise := (o.peakTick - o.start).toInt.toNat, area := o.area, phase := o.phase, angle := angleAt s o.start,
              truncated := true, long := false, injected := false }
            { s with
              chans := s.chans.set c
                { ch with det := .armed, openHit := none, deadTime := none, sigma := some (x - 1) } })
    { takeGap c d e s with cycle := u.cycle } = u ∧
      (u.cycle = none → takeGap c d e s = u) ∧
      ∀ cy, u.cycle = some cy →
        ∃ blind,
          (takeGap c d e s).cycle = some { cy with blind := blind } ∧
            ∀ z, z ∈ blind ↔
              z ∈ cy.blind ∨
                ZoneUses u c z ∧ 0 ≤ (e - 1 - cy.startTick).toInt ∧
                  ∀ f ∈ cy.endTick, 0 < (f - x).toInt ∧ 0 < (f - cy.startTick).toInt) ∧
  (∀ (h : Hit) (s : State),
    let k := (s.chan h.chan).cnt
    handOn h s =
      joinList h
        { s with
          chans := s.chans.set h.chan
            { s.chan h.chan with
              cnt :=
                { k with
                  hitsClosed := min 4294967295 (k.hitsClosed + 1)
                  hitsTruncated :=
                    if h.truncated then min 4294967295 (k.hitsTruncated + 1) else k.hitsTruncated } } }) ∧
  ∀ (x y c : Chan) (lo hi : Int),
    ((ZoneKind.pair x y lo hi).uses c = true ↔ x = c ∨ y = c) ∧ ((ZoneKind.single x).uses c = true ↔ x = c)

/-- The phase of a tick is that of the latest log entry at or before it, NONE where there is none (R28), and a tick's class
is IN_WINDOW from the start tick up to the end tick, else LATE before the closed horizon, else OUTSIDE (R29). -/
def Obligations.PhaseAndClass : Prop :=
  (∀ (older newer : List PhaseEntry) (e : PhaseEntry) (t : Tick),
      0 ≤ (t - e.tick).toInt → (∀ x ∈ newer, (t - x.tick).toInt < 0) → phaseAt (older ++ e :: newer) t = e.phase) ∧
    (∀ (log : List PhaseEntry) (t : Tick), (∀ x ∈ log, (t - x.tick).toInt < 0) → phaseAt log t = .none) ∧
    ∀ (s : State) (t : Tick),
      (sampleClass s t = .inWindow ↔
          ∃ cy, s.cycle = some cy ∧ 0 ≤ (t - cy.startTick).toInt ∧ ∀ e ∈ cy.endTick, 0 < (e - t).toInt) ∧
        (sampleClass s t = .late ↔
          sampleClass s t ≠ .inWindow ∧ ∃ h, s.horizon = some h ∧ 0 < (h - t).toInt)

/-- The detector's judgement of a sample (R62, R64, R66, R67, R68, R70): blocked outside an admissible sample, dead in the
dead time, a hit opened at or above floor plus margin, and an open hit extended, closed below its closing threshold, or
closed LONG at 255 samples. Floor tracking (R56, R57, R58): only a tracked channel's OUTSIDE samples outside hits enter the
block; the 256th completes it and, with no cycle open, sets the floor to the rounded mean; an IN_WINDOW sample discards a
partial block. A sample is classed, judged, takes effect, and reaches floor tracking (R55). A judgement takes effect: without
a hit the settled tick is the sample's, at an opening the one before it, and its advance prompts the tests (R77, R83); a
close sets the dead-time end tick from the record's dead time (R69) and hands the hit on (R76). The marks of the frame follow
(R78). What a detector without a hit shows between samples, which of two effects of one sample comes first, and the hand-on
before the tests are the model's readings (notes/assumptions/10.md, notes/assumptions/11.md, notes/assumptions/17.md). What a
detector without a hit shows between samples and which of two effects of one sample comes first are the model's readings
(notes/assumptions/10.md, notes/assumptions/11.md). The resolution test comes before the settle test at one occasion
(notes/assumptions/26.md). -/
def Obligations.DetectorAndFloor : Prop :=
  ((∀ (s : State) (c : Chan) (cls : SampleClass) (t : Tick) (v : Nat),
        (s.chan c).openHit = none → (s.run = .stopped ∨ s.slotInUse = none ∨ cls ≠ .inWindow) →
          judge s c cls t v = .rests .blocked) ∧
      (∀ (s : State) (c : Chan) (t : Tick) (v : Nat) (cy : Cycle) (k : SlotIx) (p : Profile),
        (s.chan c).openHit = none → s.run = .running → s.cycle = some cy → cy.slot = some k →
          (s.slot k).profile = some p →
          let r := p.records[c]
          let phase := phaseAt cy.log t
          let margin :=
            match phase with
            | .previb => r.marginVib
            | .mainvib => r.marginVib
            | .strip => r.marginStrip
            | _ => r.marginOther
          let thrOn := min 4095 ((s.chan c).floor + margin)
          let dead := ∃ d, (s.chan c).deadTime = some d ∧ 0 < (t - d.closed).toInt ∧ 0 ≤ (d.endTick - t).toInt
          (dead → judge s c .inWindow t v = .rests .dead) ∧
            (¬dead → v < thrOn → judge s c .inWindow t v = .rests .armed) ∧
            (¬dead → thrOn ≤ v →
              judge s c .inWindow t v =
                .opens
                  { cycle := cy.number, start := t, phase := phase, duration := 1, peak := v, peakTick := t,
                    area := v - (s.chan c).floor, floor := (s.chan c).floor, thrOn := thrOn,
                    thrOff := thrOn - r.hysteresis })) ∧
      ∀ (s : State) (c : Chan) (cls : SampleClass) (t : Tick) (v : Nat) (o : OpenHit),
        (s.chan c).openHit = some o → cls ≠ .late →
          let o' : OpenHit :=
            { o with
              duration := o.duration + 1
              area := o.area + (v - o.floor)
              peak := max o.peak v
              peakTick := if o.peak < v then t else o.peakTick }
          (v < o.thrOff → judge s c cls t v = .closes o false) ∧
            (o.thrOff ≤ v → o.duration + 1 < 255 → judge s c cls t v = .extends o') ∧
            (o.thrOff ≤ v → 255 ≤ o.duration + 1 → judge s c cls t v = .closes o' true)) ∧
  (∀ (s : State) (c : Chan) (v : Nat) (added : Bool),
      let ch := s.chan c
      (ch.floorTrack = false → ∀ cls, trackFloor c cls v added s = s) ∧
        (ch.floorTrack = true →
          trackFloor c .late v added s = s ∧
            trackFloor c .inWindow v added s = { s with chans := s.chans.set c { ch with floorSum := 0, floorCount := 0 } } ∧
            trackFloor c .outside v true s = s ∧
            (ch.floorCount + 1 < 256 →
              trackFloor c .outside v false s =
                { s with
                  chans := s.chans.set c { ch with floorSum := ch.floorSum + v, floorCount := ch.floorCount + 1 } }) ∧
            (256 ≤ ch.floorCount + 1 →
              trackFloor c .outside v false s =
                { s with
                  chans := s.chans.set c
                    { ch with
                      floor := if s.cycle = none then (ch.floorSum + v + 128) / 256 else ch.floor
                      floorSum := 0
                      floorCount := 0 } }))) ∧
  (∀ (c : Chan) (t : Tick) (v : Nat) (vs : List Nat) (s : State) (m : FrameMarks),
      let cls := sampleClass s t
      let j := judge s c cls t v
      takeSamples c [] t (s, m) = (s, m) ∧
        takeSamples c (v :: vs) t (s, m) =
          takeSamples c vs (t + 1) (trackFloor c cls v j.adds (applyJudgement c t j s), m.after j)) ∧
  (∀ (c : Chan) (t : Tick) (s : State),
      let ch := s.chan c
      let put (ch : Channel) : State := { s with chans := s.chans.set c ch }
      let settled (g : Tick) (ch' : Channel) : State :=
        if ch.sigma = some g then put ch' else settledMoved (put { ch' with sigma := some g })
      (∀ st, applyJudgement c t (.rests st) s = settled t { ch with det := st }) ∧
        (∀ o, applyJudgement c t (.opens o) s = settled (t - 1) { ch with det := .inHit, openHit := some o }) ∧
        (∀ o, applyJudgement c t (.extends o) s = put { ch with openHit := some o }) ∧
        applyJudgement c t .ignores s = s ∧
        ∀ (o : OpenHit) (long : Bool),
          let dead : Nat :=
            match s.slotInUse with
            | none => 0
            | some k => match (s.slot k).profile with | none => 0 | some p => p.records[c].deadTime
          applyJudgement c t (.closes o long) s =
            settledMoved
              (handOn
                { chan := c, cycle := o.cycle, start := o.start, duration := o.duration, peak := o.peak,
                  rise := (o.peakTick - o.start).toInt.toNat, area := o.area, phase := o.phase, angle := angleAt s o.start,
                  truncated := false, long := long, injected := false }
                (put
                  { ch with
                    det := .dead, openHit := none, deadTime := some ⟨t, t + BitVec.ofNat 32 dead⟩, sigma := some t }))) ∧
  ∀ (m : FrameMarks) (o : OpenHit) (st : DetState),
    (m.after (.rests st) = m ∧ m.after .ignores = m ∧ m.after (.opens o) = ⟨true, true, m.hitClosed⟩ ∧
        m.after (.extends o) = ⟨m.hitStarted, true, m.hitClosed⟩ ∧
        m.after (.closes o false) = ⟨m.hitStarted, m.inHit, true⟩ ∧ m.after (.closes o true) = ⟨m.hitStarted, true, true⟩) ∧
      (Judgement.rests st).adds = false ∧ Judgement.ignores.adds = false ∧ (Judgement.opens o).adds = true ∧
      (Judgement.extends o).adds = true ∧ (Judgement.closes o false).adds = false ∧ (Judgement.closes o true).adds = true

/-- LOSS_TIMEOUT of a LIVE channel whose loss timer has run out makes it LOST with its hit ended, its floor block empty, its
detector ARMED and CHANNEL_LOST true, and changes no other channel (R49, R51, R71, R77). A hit open on it is counted closed
and truncated and ends without a frame (R71, R76, R141), and the zones that use the channel join the blind set of the cycle
when its expected tick is before the end tick or that is absent (R54). Before that, or on a channel that is not LIVE, it does
nothing (notes/assumptions/5.md). The order of its parts is the model's (notes/assumptions/12.md). The resolution test comes
before the settle test at one occasion (notes/assumptions/26.md). A hit's end without a frame is judged by the policy in
force at that instant (notes/assumptions/27.md). -/
def Obligations.ChannelLoss : Prop :=
  (∀ (c : Chan) (s : State) (from' : Tick),
      s.nrstLow = false → (s.chan c).intake = .live → (s.chan c).lossFrom = some from' →
        ((s.tick - from').toInt < s.cfg.lossTimeout → exec (.lossTimeout c) s = .next s) ∧
          ((s.cfg.lossTimeout : Int) ≤ (s.tick - from').toInt →
            ∃ t : State,
              exec (.lossTimeout c) s = .next t ∧ (t.chan c).intake = .lost ∧ (t.chan c).expected = none ∧
                (t.chan c).lossFrom = none ∧ (t.chan c).openHit = none ∧ (t.chan c).det = .armed ∧
                (t.chan c).deadTime = none ∧ (t.chan c).sigma = none ∧ (t.chan c).floorSum = 0 ∧
                (t.chan c).floorCount = 0 ∧ (t.chan c).floor = (s.chan c).floor ∧
                (s.enabled c = true → t.classes[clsChannelLost].cond = true) ∧ (∀ d, d ≠ c → t.chan d = s.chan d) ∧
                SameBase s t ∧ t.run = s.run ∧ t.cfg = s.cfg ∧ (∀ k, s.slotInUse ≠ some k → t.slot k = s.slot k) ∧
                (let ch := s.chan c
                (t.chan c).cnt =
                    (if ch.openHit.isSome then
                      { ch.cnt with
                        hitsClosed := min 4294967295 (ch.cnt.hitsClosed + 1)
                        hitsTruncated := min 4294967295 (ch.cnt.hitsTruncated + 1) }
                    else ch.cnt) ∧
                  (t.chan c).postRemaining =
                    (if ch.openHit.isSome ∧ ch.policy = .aroundHits then ch.post else ch.postRemaining) ∧
                  (t.chan c).preQueue = ch.preQueue) ∧
                ∀ cy cy', s.cycle = some cy → t.cycle = some cy' →
                  ∀ z, z ∈ cy'.blind ↔
                    z ∈ cy.blind ∨
                      ZoneUses s c z ∧ ∃ x, (s.chan c).expected = some x ∧ ∀ e ∈ cy.endTick, 0 < (e - x).toInt)) ∧
    ∀ (c : Chan) (s : State), s.nrstLow = false → (s.chan c).intake ≠ .live → exec (.lossTimeout c) s = .next s

/-! ### The cycle -/

/-- A CYCLE_START in RUNNING opens a cycle at the current tick with the marker's number and mould ID, empty log, counts and
tallies, and no flag but UNKNOWN_MOULD, with the REJECT that its fault may fire, in an unprofiled cycle; it marks and selects
the DEFINED slot of that ID, or the cycle is unprofiled; the zones of a WAITING or LOST channel are blind; an open cycle is
force-closed first, with FORCED set, its open hits truncated and counted, its slot evaluated and released and its report
offered, and its end tick becomes the closed horizon; the opening is made on the state that this close leaves, and in an
unprofiled cycle UNKNOWN_MOULD is raised then (R2, R31, R34, R38, R54, R72). The order of a forced close's parts is the
model's (notes/assumptions/13.md), and so it is that the arbiter chooses at the close's end, before the opening
(notes/assumptions/28.md). A hit's end without a frame is judged by the policy in force at that instant
(notes/assumptions/27.md), and a truncated hit that joins a full list makes an early resolution (notes/assumptions/25.md). -/
def Obligations.CycleStartOpens : Prop :=
  ∀ (m : MouldId) (n : CycleNumber) (s : State), s.nrstLow = false → s.run = .running →
    ∃ (u t : State) (cy : Cycle),
      exec (.cycleStart m n) s = .next t ∧ t.cycle = some cy ∧ cy.number = n ∧ cy.mould = m ∧ cy.startTick = s.tick ∧
        cy.endTick = none ∧ cy.closingEntry = none ∧ cy.log = [] ∧ cy.counts = ⟨0, 0, 0, 0, 0⟩ ∧
        (∀ z : ZoneIx, cy.tallies[z] = ⟨0, 0, 0⟩) ∧ cy.flags.unknownMould = cy.slot.isNone ∧ cy.flags.forced = false ∧
        cy.flags.timeout = false ∧ cy.flags.abandoned = false ∧ cy.flags.markerLoss = false ∧ cy.flags.reportLost = false ∧
        (cy.slot.isSome = true → cy.flags.reject = false) ∧
        (∀ k, cy.slot = some k →
          (t.slot k).inUse = true ∧ (∃ p, (t.slot k).profile = some p ∧ p.mouldId = m) ∧
            ∀ z, z ∈ cy.blind ↔
              ∃ c r, ((s.chan c).intake = .waiting ∨ (s.chan c).intake = .lost) ∧ t.zone? k z = some r ∧
                r.defn.kind.uses c = true) ∧
        (cy.slot = none →
          cy.blind = [] ∧
            (m = 0 ∨ m = 0xFFFF ∨ ∀ k, ∀ p ∈ (t.slot k).profile, p.mouldId ≠ m) ∧
            (s.classes[clsUnknownMould].cond = false → s.classes[clsUnknownMould].forced = false →
              t.classes[clsUnknownMould].sticky = true)) ∧
        (∀ old, s.cycle = some old → t.horizon = some (old.endTick.getD s.tick) ∧ t.hits = []) ∧
        (s.cycle = none → t.horizon = s.horizon ∧ t.hits = s.hits ∧ t.chans = s.chans ∧ t.cnt = s.cnt) ∧
        SameBase s t ∧ t.run = s.run ∧ t.cfg = s.cfg ∧
        (∀ k, s.slotInUse ≠ some k → cy.slot ≠ some k → t.slot k = s.slot k) ∧
        (s.cycle = none → u = s) ∧
        (∀ old, s.cycle = some old →
          let ended := some (old.endTick.getD s.tick)
          ForceClosed old ended s u ∧
            u = forcedClose { old with endTick := ended, flags := { old.flags with forced := true } } s) ∧
        (∀ k, cy.slot = some k →
          t = { u with cycle := some cy, slots := u.slots.set k { u.slot k with inUse := true } }) ∧
        (cy.slot = none →
          t =
            raise clsUnknownMould
              { u with cycle := some { cy with flags := { cy.flags with reject := false } } })

/-- A PHASE in RUNNING joins an OPEN cycle's log of eight, and an entry of no VIB class ends STROKE_LOST; a ninth is marked
and out of order (R25, R32). A PHASE or a CYCLE_END in RUNNING without an OPEN cycle is counted and raises MARKER_ORDER;
any marker in STOPPED is counted and does nothing else (R27, R32, R33). -/
def Obligations.PhaseMarkers : Prop :=
  (∀ (p : MarkerPhase) (cy : Cycle) (s : State),
      s.nrstLow = false → s.run = .running → s.cycle = some cy → cy.closingEntry = none →
        (cy.log.length < 8 →
          let t : State := { s with cycle := some { cy with log := cy.log ++ [⟨Phase.ofMarker p, s.tick⟩] } }
          exec (.phase p) s = .next (if p = .previb ∨ p = .mainvib then t else signal clsStrokeLost false t)) ∧
          (8 ≤ cy.log.length →
            exec (.phase p) s =
              .next
                (raise clsMarkerOrder
                  { s with
                    cycle := some { cy with flags := { cy.flags with markerLoss := true } }
                    cnt := { s.cnt with markersOutOfOrder := min 65535 (s.cnt.markersOutOfOrder + 1) } }))) ∧
  (∀ (s : State) (m : MouldId) (n : CycleNumber) (p : MarkerPhase), s.nrstLow = false →
      let counted : State := { s with cnt := { s.cnt with markersOutOfOrder := min 65535 (s.cnt.markersOutOfOrder + 1) } }
      (s.run = .running → s.cycleState ≠ .opened →
        exec (.phase p) s = .next (raise clsMarkerOrder counted) ∧
          exec .cycleEnd s = .next (raise clsMarkerOrder counted)) ∧
        (s.run = .stopped →
          exec (.cycleStart m n) s = .next counted ∧ exec (.phase p) s = .next counted ∧ exec .cycleEnd s = .next counted))

/-- A CYCLE_END in RUNNING ends the OPEN cycle's window at the current tick; while a LIVE channel has not settled pair_span
beyond it the cycle is CLOSING, and once every LIVE channel has, it closes at once (R33, R36, R38). A close from its final
resolution on (R95, R99, R100): every pending hit is resolved, the slot of a profiled cycle is evaluated, the report is
built, the slot released, the report offered, the close notice given and the record cleared, with which STROKE_LOST falls
(R25). The report carries the cycle's number, mould, slot, flags as the actions left them with the report lost mark, and
counts, and for a profiled cycle one entry for each DEFINED zone in index order with its tally, its stored evidence, state
and count, and whether it was blind (R115, R116, R117). The arbiter chooses at the end of a close
(notes/assumptions/4.md). -/
def Obligations.CycleEndCloses : Prop :=
  (∀ (cy : Cycle) (s : State), s.nrstLow = false → s.run = .running → s.cycle = some cy → cy.closingEntry = none →
    let settled (c : Chan) : Prop :=
      ∃ g, (s.chan c).sigma = some g ∧ 0 ≤ (g - (s.tick + BitVec.ofNat 32 s.cfg.pairSpan)).toInt
    ((∃ c, (s.chan c).intake = .live ∧ ¬settled c) →
      exec .cycleEnd s =
        .next { s with cycle := some { cy with endTick := some s.tick, closingEntry := some s.tick } }) ∧
      ((∀ c, (s.chan c).intake = .live → settled c) →
        ∃ t : State,
          exec .cycleEnd s = .next t ∧ t.cycle = none ∧ t.hits = [] ∧ t.horizon = some s.tick ∧ t.pendingHold = [] ∧
            t.chans = s.chans ∧ SameBase s t ∧ t.run = s.run ∧ t.cfg = s.cfg ∧
            (∀ k, cy.slot = some k → (t.slot k).inUse = false) ∧ (∀ k, cy.slot ≠ some k → t.slot k = s.slot k) ∧
            t =
              arbitrate
                { finishClose
                    { s with
                      cycle := some { cy with endTick := some s.tick, closingEntry := some s.tick }
                      horizon := some s.tick, deferred := true } with
                  deferred := s.deferred })) ∧
  (∀ (cy : Cycle) (s : State), s.cycle = some cy →
    ∃ (u : State) (cy' : Cycle), (resolveAll s).cycle = some cy' ∧ cy'.slot = cy.slot ∧ cy'.blind = cy.blind ∧
      u = (match cy.slot with | none => resolveAll s | some k => evaluateSlot k cy' (resolveAll s)) ∧
      ∃ (flags : CycleFlags) (entries : List ZoneEntry),
        (∀ f, u.cycle = some f → flags = f.flags) ∧ u.cycle.isSome = true ∧
          (cy.slot = none → entries = []) ∧
          (∀ k, cy.slot = some k →
            (entries.Pairwise fun a b => a.zone < b.zone) ∧
              ∀ e : ZoneEntry, e ∈ entries ↔
                ∃ r, u.zone? k e.zone = some r ∧ e.tally = cy'.tallies[e.zone] ∧ e.evidence = r.rt.evidence ∧
                  e.state = r.rt.state ∧ e.count = r.rt.count ∧ e.blind = cy.blind.contains e.zone) ∧
          (let report : Report :=
            { number := cy.number, mould := cy.mould, slot := cy.slot
              flags := { flags with reportLost := u.reportLost }
              counts := cy'.counts, zones := entries }
          let released : State :=
            match cy.slot with
            | none => u
            | some k => { u with slots := u.slots.set k { u.slot k with inUse := false } }
          finishClose s =
            setCond clsStrokeLost false { closeNotice (offerReport report released) with cycle := none }))

/-- CYCLE_TIMEOUT of an OPEN cycle max_cycle_ticks after its start force-closes it at the current tick and raises
CYCLE_OVERRUN; SETTLE_TIMEOUT of a CLOSING cycle settle_timeout after its closing entry force-closes it with its end tick
kept; a slot's cycle count goes up by one. Taken before they are due they do nothing (R3, R35, R37, R38;
notes/assumptions/5.md). A hit open in the closed window is truncated, counted closed and truncated on its channel, handed on
and so told to the forwarding stage, and leaves the detector ARMED without a dead-time end tick and settled at the last
sample taken (R71, R72, R141); a channel without one is left as it was. CYCLE_OVERRUN is raised before the close (R123), and
an alert it makes pending may start before the close (notes/assumptions/29.md), the flags FORCED and TIMEOUT are set, the
truncated hits join the list in channel order (notes/assumptions/13.md, notes/assumptions/25.md), and the close then goes on
as any other, with its report (R100, R115). A hit's end without a frame is judged by the policy in force at that instant
(notes/assumptions/27.md). -/
def Obligations.ForcedCloses : Prop :=
  ∀ (cy : Cycle) (s : State), s.nrstLow = false → s.cycle = some cy →
    (cy.closingEntry = none →
      ((s.tick - cy.startTick).toInt < s.cfg.maxCycleTicks → exec .cycleTimeout s = .next s) ∧
        ((s.cfg.maxCycleTicks : Int) ≤ (s.tick - cy.startTick).toInt →
          ∃ t, exec .cycleTimeout s = .next t ∧ ForceClosed cy (some (cy.endTick.getD s.tick)) s t ∧
            (s.classes[clsCycleOverrun].cond = false → s.classes[clsCycleOverrun].forced = false →
              t.classes[clsCycleOverrun].sticky = true) ∧
            (let u := raise clsCycleOverrun s
            ∃ f, u.cycle = some { cy with flags := f } ∧
              t =
                forcedClose { cy with endTick := some (cy.endTick.getD s.tick), flags := { f with forced := true, timeout := true } }
                  u)) ∧
        exec .settleTimeout s = .next s) ∧
      ∀ e, cy.closingEntry = some e →
        ((s.tick - e).toInt < s.cfg.settleTimeout → exec .settleTimeout s = .next s) ∧
          ((s.cfg.settleTimeout : Int) ≤ (s.tick - e).toInt →
            ∃ t, exec .settleTimeout s = .next t ∧ ForceClosed cy (some (cy.endTick.getD s.tick)) s t ∧
              t =
                forcedClose { cy with endTick := some (cy.endTick.getD s.tick), flags := { cy.flags with forced := true } } s) ∧
          exec .cycleTimeout s = .next s

/-! ### Assembly and evaluation -/

/-- A head hit that is TRUNCATED or LONG is noise: it leaves the list and costs one noise count and nothing else (R86). The
partner search (R87, R88): the first PAIR zone in index order that admits the first candidate on its other channel wins, and
the delay is the start on ch_y less the start on ch_x. A candidate is of the head's cycle, on another channel, within
pair_span of its start, and neither TRUNCATED nor LONG (R87). A PAIR event takes both records from the list, else the SINGLE
zone of lowest index on the head's channel makes a SINGLE event, else the head is unlocated, each in its count (R88, R89,
R94); the event's fields (R90), its zone's tally (R92), then its offer (R93). A hit joins the list behind those it does not
precede by start tick and channel, after an early resolution, counted and raised as OVERFLOW, where 32 wait, and is counted
closed; then the resolution test is made, which resolves heads while every other LIVE channel has settled pair_span past the
head's start; a close resolves all (R80, R81, R82, R83, R84, R95). -/
def Obligations.Resolution : Prop :=
  (∀ (s : State) (cy : Cycle) (h : Hit) (rest : List Hit),
      s.cycle = some cy → s.hits = h :: rest → (h.truncated = true ∨ h.long = true) →
        resolveHead s =
          { s with
            hits := rest
            cycle := some { cy with counts := { cy.counts with noise := min 4294967295 (cy.counts.noise + 1) } } }) ∧
  ((∀ (h g : Hit) (cands : List Hit) (zs : List (ZoneIx × Zone)) (z : ZoneIx) (r : Zone) (d : Int),
        findPair h cands zs = some (z, r, g, d) ↔
          ∃ before after,
            zs = before ++ (z, r) :: after ∧ zonePartner r.defn.kind h cands = some (g, d) ∧
              ∀ p ∈ before, zonePartner p.2.defn.kind h cands = none) ∧
      ∀ (h g : Hit) (cands : List Hit) (x y : Chan) (lo hi d : Int), x ≠ y →
        (zonePartner (.pair x y lo hi) h cands = some (g, d) ↔
          lo ≤ d ∧ d ≤ hi ∧
            (h.chan = x ∧ cands.find? (fun f => f.chan == y) = some g ∧ d = (g.start - h.start).toInt ∨
              h.chan = y ∧ cands.find? (fun f => f.chan == x) = some g ∧ d = (h.start - g.start).toInt))) ∧
  ((∀ (span : Nat) (h g : Hit),
        isCandidate span h g = true ↔
          g.cycle = h.cycle ∧ g.chan ≠ h.chan ∧ 0 ≤ (h.start + BitVec.ofNat 32 span - g.start).toInt ∧
            g.truncated = false ∧ g.long = false) ∧
      (∀ s : State,
        (∀ z r, (z, r) ∈ zonesInUse s ↔ ∃ k, s.slotInUse = some k ∧ s.zone? k z = some r) ∧
          (zonesInUse s).Pairwise fun p q => p.1 < q.1) ∧
      ∀ (c : Chan) (zs : List (ZoneIx × Zone)) (z : ZoneIx) (r : Zone),
        findSingle c zs = some (z, r) ↔
          ∃ before after,
            zs = before ++ (z, r) :: after ∧ r.defn.kind = .single c ∧ ∀ p ∈ before, p.2.defn.kind ≠ .single c) ∧
  (∀ (s : State) (cy : Cycle) (h : Hit) (rest : List Hit),
      s.cycle = some cy → s.hits = h :: rest → h.truncated = false → h.long = false →
        let zs := zonesInUse s
        let pair := findPair h (rest.filter (isCandidate s.cfg.pairSpan h)) zs
        let tallied (t : Tally) (scored : Bool) (area : Nat) : Tally :=
          if scored then
            { t with count := min 255 (t.count + 1), areaSum := min 16777215 (t.areaSum + area) }
          else { t with ungated := min 255 (t.ungated + 1) }
        let located (z : ZoneIx) (d : ZoneDef) (mate : Option Mate) (peak area : Nat) (injected : Bool) (counts : CycleCounts)
            (hits : List Hit) : State :=
          let scored := scores d h.phase area h.angle
          offerEvent
            { zone := z, cycle := h.cycle, primary := h.chan, start := h.start, mate := mate, peak := peak, area := area,
              angle := h.angle, phase := h.phase, duration := h.duration, rise := h.rise, injected := injected,
              scored := scored }
            { s with
              hits := hits
              cycle := some
                { cy with counts := counts, tallies := cy.tallies.set z (tallied cy.tallies[z] scored area) } }
        (∀ z r g d, pair = some (z, r, g, d) →
            resolveHead s =
              located z r.defn (some ⟨g.chan, d⟩) (max h.peak g.peak) (h.area + g.area) (h.injected || g.injected)
                { cy.counts with pairEvents := min 4294967295 (cy.counts.pairEvents + 1) } (rest.erase g)) ∧
          (pair = none → ∀ z r, findSingle h.chan zs = some (z, r) →
            resolveHead s =
              located z r.defn none h.peak h.area h.injected
                { cy.counts with singleEvents := min 4294967295 (cy.counts.singleEvents + 1) } rest) ∧
          (pair = none → findSingle h.chan zs = none →
            resolveHead s =
              { s with
                hits := rest
                cycle := some
                  { cy with counts := { cy.counts with unlocated := min 4294967295 (cy.counts.unlocated + 1) } } })) ∧
  (∀ (h : Hit) (l : List Hit),
      let precedes (g : Hit) : Prop := 0 < (g.start - h.start).toInt ∨ h.start = g.start ∧ h.chan < g.chan
      ∃ before after,
        l = before ++ after ∧ insertHit h l = before ++ h :: after ∧ (∀ g ∈ before, ¬precedes g) ∧
          ∀ g ∈ after.head?, precedes g) ∧
  (∀ (h : Hit) (s : State),
      let entered (u : State) : State :=
        resolutionTest
          { u with
            hits := insertHit h u.hits
            cycle := u.cycle.map fun cy =>
              { cy with counts := { cy.counts with hitsClosed := min 4294967295 (cy.counts.hitsClosed + 1) } } }
      let early : State := resolveHead s
      (s.hits.length < 32 → joinList h s = entered s) ∧
        (32 ≤ s.hits.length →
          joinList h s =
            entered
              (raise clsOverflow
                { early with
                  cnt := { early.cnt with earlyResolutions := min 4294967295 (early.cnt.earlyResolutions + 1) } }))) ∧
  ∀ s : State,
    (∀ h, headReady h s = true ↔
        ∀ c, c ≠ h.chan → (s.chan c).intake = .live →
          ∃ g, (s.chan c).sigma = some g ∧ 0 ≤ (g - (h.start + BitVec.ofNat 32 s.cfg.pairSpan)).toInt) ∧
      (s.hits = [] → resolutionTest s = s ∧ resolveAll s = s) ∧
      ∀ h rest, s.hits = h :: rest →
        (headReady h s = false → resolutionTest s = s) ∧
          (headReady h s = true → resolutionTest s = resolutionTest (resolveHead s)) ∧
          resolveAll s = resolveAll (resolveHead s)

/-- An event scores when the phase mask holds its phase, its area reaches min_area, and its angle lies in the stroke gate,
which wraps when gate_lo is above gate_hi, or it has none and require_phase is no (R7, R91). -/
def Obligations.EventScoring : Prop :=
  ∀ (d : ZoneDef) (phase : Phase) (area : Nat) (angle : Option Nat),
    scores d phase area angle = true ↔
      d.phaseMask.getLsbD
            (match phase with | .none => 0 | .fill => 1 | .previb => 2 | .mainvib => 3 | .strip => 4 | .ret => 5) =
          true ∧
        d.minArea ≤ area ∧
        match angle with
        | none => d.requirePhase = false
        | some a =>
          d.gateLo ≤ d.gateHi ∧ d.gateLo ≤ a ∧ a ≤ d.gateHi ∨ d.gateHi < d.gateLo ∧ (d.gateLo ≤ a ∨ a ≤ d.gateHi)

/-- The evidence and the successive count of an evaluation: E2 is E, less E / 2^leak_shift unless blind, plus
area_sum / 2^area_shift held at 65,535, the sum held at 65,535; n goes up by one to at most 8 when the tally count reaches
count_limit, is kept when blind, and is 0 otherwise (R102, R103, R104, R105, R106). -/
def Obligations.ZoneArithmetic : Prop :=
  ∀ (d : ZoneDef) (r : Runtime) (t : Tally) (blind : Bool) (cycle : CycleNumber),
    (evaluateZone d r t blind cycle).evidence =
        min 65535
          ((if blind then r.evidence else r.evidence - r.evidence / 2 ^ d.leakShift) +
            min 65535 (t.areaSum / 2 ^ d.areaShift)) ∧
      (evaluateZone d r t blind cycle).count =
        if d.countLimit ≤ t.count then min 8 (r.count + 1) else if blind then r.count else 0

/-- The state, crack cycle and last evaluated cycle of an evaluation (R107, R108, R109): CRACK stays; the crack condition
makes CRACK with the present cycle's number, else the watch condition makes WATCH, else a WATCH zone at or above its release
level or blind stays WATCH, else the zone is CLEAR. -/
def Obligations.ZoneStates : Prop :=
  ∀ (d : ZoneDef) (r : Runtime) (t : Tally) (blind : Bool) (cycle : CycleNumber),
    let out := evaluateZone d r t blind cycle
    let crack := d.tripCycles ≤ out.count ∨ d.tripLevel ≤ out.evidence
    let watch := d.countLimit ≤ t.count ∨ d.watchLevel ≤ out.evidence
    (r.state = .crack → out.state = .crack ∧ out.crackCycle = r.crackCycle) ∧
      (r.state ≠ .crack → crack → out.state = .crack ∧ out.crackCycle = some cycle) ∧
      (r.state ≠ .crack → ¬crack → out.crackCycle = none) ∧
      (r.state ≠ .crack → ¬crack → watch → out.state = .watch) ∧
      (r.state = .watch → ¬crack → ¬watch → (d.watchLevel - d.watchHyst ≤ out.evidence ∨ blind = true) →
        out.state = .watch) ∧
      (r.state = .watch → ¬crack → ¬watch → out.evidence < d.watchLevel - d.watchHyst → blind = false →
        out.state = .clear) ∧
      (r.state = .clear → ¬crack → ¬watch → out.state = .clear) ∧ out.lastCycle = some cycle

/-- The evaluation of a slot stores the evaluated runtime of each of its DEFINED zones, keeps their definitions, adds one to
its cycle count, and touches no other slot, no channel and no pending hit (R3, R99, R109, R114). The actions it fires: the
watch_action at an entry into WATCH or, repeating, at a stay in it, the crack_action likewise, NONE firing nothing (R111,
R112, R113). The zones that fire count in the zone alert count, held at 255, and the one of highest index is the last zone
alerted; any makes the alert pending; each identifier enters the hold set of its code, and a REJECT runs the pulse and flags
the cycle (R113, R126, R128, R132, R133). -/
def Obligations.EvaluationStores : Prop :=
  ∀ (s : State) (k : SlotIx) (cy : Cycle) (p : Profile), (s.slot k).profile = some p →
    ∃ q : Profile,
      ((evaluateSlot k cy s).slot k).profile = some q ∧ q.mouldId = p.mouldId ∧ q.records = p.records ∧
        q.cycleCount = min 4294967295 (p.cycleCount + 1) ∧
        (∀ z : ZoneIx,
          q.zones[z] =
            (p.zones[z]).map fun r =>
              { r with rt := evaluateZone r.defn r.rt cy.tallies[z] (cy.blind.contains z) cy.number }) ∧
        ((evaluateSlot k cy s).slot k).inUse = (s.slot k).inUse ∧
        (∀ j, j ≠ k → (evaluateSlot k cy s).slot j = s.slot j) ∧ (evaluateSlot k cy s).chans = s.chans ∧
        (evaluateSlot k cy s).hits = s.hits ∧
        (∀ (d : ZoneDef) (before now : ZoneState),
          firedCode d before now =
            match before, now with
            | .clear, .watch => d.watchAction.code
            | .watch, .watch => if d.watchAction.repeats then d.watchAction.code else .none
            | .clear, .crack | .watch, .crack => d.crackAction.code
            | .crack, .crack => if d.crackAction.repeats then d.crackAction.code else .none
            | _, _ => .none) ∧
        (let t := evaluateSlot k cy s
        let after (z : ZoneIx) (r : Zone) : Runtime :=
          evaluateZone r.defn r.rt cy.tallies[z] (cy.blind.contains z) cy.number
        let fires (z : ZoneIx) : ActionCode :=
          match p.zones[z] with
          | none => .none
          | some r => firedCode r.defn r.rt.state (after z r).state
        let fired := allZones.filter fun z => fires z != .none
        let counted (n m : AlertNews) : Prop :=
          m.changed = n.changed ∧
            (fired = [] → m = n) ∧
            ∀ z r, fired.getLast? = some z → p.zones[z] = some r →
              m.zoneAlerts = min 255 (n.zoneAlerts + fired.length) ∧ m.lastZone = some ⟨k, z, (after z r).state⟩
        counted s.news t.news ∧ counted s.newsSince t.newsSince ∧
          t.alert = (if fired ≠ [] ∧ s.alert = .idle then .pending else s.alert) ∧
          t.rePend = (s.rePend || (!fired.isEmpty && s.alert == .sending)) ∧
          (∀ n, n ∈ t.holdSet ↔
            n ∈ s.holdSet ∨
              ∃ z : ZoneIx, n = 16 * k.val + z.val ∧ (fires z = .holdNow ∨ fires z = .holdAtEnd ∧ s.cycle = none)) ∧
          (∀ n, n ∈ t.pendingHold ↔
            n ∈ s.pendingHold ∨ ∃ z : ZoneIx, n = 16 * k.val + z.val ∧ fires z = .holdAtEnd ∧ s.cycle ≠ none) ∧
          (let rejects := ∃ z : ZoneIx, fires z = .reject
          (rejects →
              t.rejectExpiry = some (s.tick + BitVec.ofNat 32 (50 * s.cfg.rejectMs)) ∧
                t.cycle = s.cycle.map fun c => { c with flags := { c.flags with reject := true } }) ∧
            (¬rejects → t.rejectExpiry = s.rejectExpiry ∧ t.cycle = s.cycle)) ∧
          (let holds := s.cfg.holdMs ≠ 0 ∧ ∃ z : ZoneIx, fires z = .holdNow ∨ fires z = .holdAtEnd ∧ s.cycle = none
          (holds → t.holdExpiry = some (s.tick + BitVec.ofNat 32 (50 * s.cfg.holdMs))) ∧
            (¬holds → t.holdExpiry = s.holdExpiry)) ∧
          t.classes = s.classes ∧ t.cnt = s.cnt ∧ t.controlLane = s.controlLane ∧ t.tx = s.tx ∧ t.cfg = s.cfg ∧
          SameBase s t)

/-! ### Requests -/

/-- What the arrival of any request does, for every request row (R156, R157; notes/assumptions/2.md): four waiting, it is
dropped and counted and OVERFLOW is raised; no free entry, it waits; nothing in its way, it is executed at once. -/
def Obligations.RequestArrivals : Prop :=
  ∀ (i : Instr) (r : TaggedRequest) (s : State), requestOf i = some r → s.nrstLow = false →
    (4 ≤ s.requests.length →
      exec i s =
        .next
          (raise clsOverflow
            { s with cnt := { s.cnt with requestsDropped := min 65535 (s.cnt.requestsDropped + 1) } })) ∧
      (s.requests.length < 4 → s.controlFree = 0 → exec i s = .next { s with requests := s.requests ++ [r] }) ∧
      (Ready s → exec i s = .next (execute r s))

/-- A request that fails the form check is answered BAD_REQUEST and does nothing else: a payload shorter than two bytes is
answered with code 0, an upper bit of the tag byte, a code that names no request or a wrong length with its own code (R158).
The length is the one that R171's table gives the code, for SET_CONFIG that of the item's width, and SET_CONFIG and
GET_CONFIG must name an item (R161, R171); every other payload passes. The row is the arrival of the request, executed at
once in a Ready state (notes/assumptions/2.md). -/
def Obligations.BadRequests : Prop :=
  (∀ (tag : Tag) (code : Byte) (payload : List Byte) (s : State),
      Ready s → payload.length ≤ 250 → parseRequest payload = ⟨tag, .malformed code⟩ →
        exec (.badRequest payload) s = .next (answered tag code .badRequest [] s) ∧
          exec (.requestEnqueue payload) s = .next (answered tag code .badRequest [] s)) ∧
    parseRequest [] = ⟨0, .malformed 0⟩ ∧
    (∀ t : Byte, parseRequest [t] = ⟨t.setWidth 4, .malformed 0⟩) ∧
    (∀ (t c : Byte) (ps : List Byte),
      15 < t.toNat ∨ c.toNat = 0 ∨ 17 < c.toNat → parseRequest (t :: c :: ps) = ⟨t.setWidth 4, .malformed c⟩) ∧
    ∀ (t c : Byte) (ps : List Byte),
      let width (item : Byte) : Option Nat :=
        if item = 0 ∨ 17 < item.toNat then none
        else if item = 10 then some 3
        else if item ∈ [6, 7, 8, 11, 16, 17] then some 2
        else some 1
      let length : Option Nat :=
        match c.toNat with
        | 1 | 12 | 13 | 17 => some 2
        | 2 | 8 | 10 | 16 => some 3
        | 3 => (ps.head?.bind width).map (4 + ·)
        | 4 => (ps.head?.bind width).map fun _ => 4
        | 9 | 14 => some 4
        | 5 | 11 => some 5
        | 6 => some 13
        | 7 => some 23
        | 15 => some 10
        | _ => none
      (length ≠ some (2 + ps.length) → parseRequest (t :: c :: ps) = ⟨t.setWidth 4, .malformed c⟩) ∧
        (t.toNat ≤ 15 → length = some (2 + ps.length) →
          (parseRequest (t :: c :: ps)).tag = t.setWidth 4 ∧ (parseRequest (t :: c :: ps)).req.isMalformed = false ∧
            (parseRequest (t :: c :: ps)).req.code = c)

/-- READ_STATUS returns the sixteen bytes of the status and then clears the sticky bit of every class that is not live,
nothing else (R124, R159, R172). READ_COUNTERS returns the 216 bytes of the counter set and changes nothing; with the clear
flag 1 it returns the same and then sets every counter to 0 and judges LINK_ERR again; any other flag is refused BAD_VALUE
(R43, R160, R166). The counter set is the seven counters of each channel in turn and then the part's ten, each in its width
and order, and the channel states are two bits for each channel (R172). The row is the arrival of the request, executed at
once in a Ready state (notes/assumptions/2.md). -/
def Obligations.StatusAndCounters : Prop :=
  (∀ (tag : Tag) (s : State), Ready s →
      ∃ t : State,
        exec (.readStatus tag) s =
            .next
              (answered tag 1 .ok
                (([match s.run with | .stopped => 0 | .running => 1,
                    match s.cycleState with | .idle => 0 | .opened => 1 | .closing => 2] : List Byte) ++
                  (match s.cycle with | none => [0, 0, 0, 0] | some cy => bytes32 cy.number) ++
                  [match s.slotInUse with | none => 0xFF | some k => BitVec.ofNat 8 k.val,
                    s.classBits fun c => c.cond || c.forced, s.classBits fun c => c.sticky, s.classBits fun c => c.forced,
                    if s.holdSet = [] then 0 else 1, BitVec.ofNat 8 s.holdSet.length] ++
                  nat16 (channelStates s) ++
                  [BitVec.ofNat 8 s.sampleLane.length, BitVec.ofNat 8 (s.controlLane.length + 1)])
                t) ∧
          (∀ k : ClassIx,
            t.classes[k] =
              { s.classes[k] with sticky := s.classes[k].sticky && (s.classes[k].cond || s.classes[k].forced) }) ∧
          { t with classes := s.classes } = s) ∧
  ((∀ s : State, (countersBody s).length = 216) ∧
      (∀ s : State,
        countersBody s =
          ([0, 1, 2, 3, 4, 5, 6, 7].map fun c : Chan =>
              let k := (s.chan c).cnt
              nat32 k.framesAccepted ++ nat16 k.formatErrors ++ nat16 k.stale ++ nat32 k.missing ++ nat32 k.hitsClosed ++
                nat32 k.hitsTruncated ++ nat32 k.forwardedDrops).flatten ++
            (nat16 s.cnt.headLinkCrc ++ nat16 s.cnt.lineLinkCrc ++ nat16 s.cnt.misaddressed ++ nat32 s.cnt.eventDrops ++
              nat16 s.cnt.headRelayDrops ++ nat16 s.cnt.reportsLost ++ nat16 s.cnt.requestsDropped ++
              nat16 s.cnt.markersOutOfOrder ++ nat16 s.cnt.strokeBounces ++ nat32 s.cnt.earlyResolutions)) ∧
      (∀ (s : State) (c : Chan),
        channelStates s < 65536 ∧
          channelStates s / 4 ^ c.val % 4 =
            match (s.chan c).intake with | .off => 0 | .waiting => 1 | .live => 2 | .lost => 3) ∧
      (∀ (tag : Tag) (s : State), Ready s →
        exec (.readCounters tag 0) s = .next (answered tag 2 .ok (countersBody s) s)) ∧
      (∀ (tag : Tag) (flag : Byte) (s : State), Ready s → flag ≠ 0 → flag ≠ 1 →
        exec (.readCounters tag flag) s = .next (answered tag 2 .badValue [] s)) ∧
      ∀ (tag : Tag) (s : State), Ready s → 1 ≤ s.cfg.linkErrLimit →
        ∃ t : State,
          exec (.readCountersClear tag) s = .next (answered tag 2 .ok (countersBody s) t) ∧
            t.cnt = ⟨0, 0, 0, 0, 0, 0, 0, 0, 0, 0⟩ ∧
            (∀ c, t.chan c = { s.chan c with cnt := ⟨0, 0, 0, 0, 0, 0, 0⟩ }) ∧ t.classes[clsLinkErr].cond = false ∧
            (∀ k, k ≠ clsLinkErr → t.classes[k] = s.classes[k]) ∧ t.cfg = s.cfg ∧ t.slots = s.slots ∧ t.cycle = s.cycle ∧
            t.hits = s.hits ∧ t.holdSet = s.holdSet ∧ t.controlLane = s.controlLane ∧ t.run = s.run ∧ SameBase s t)

/-- GET_CONFIG returns the value in force in the item's width and changes nothing; an index above 7 of a per-channel or per-
class item is refused BAD_VALUE (R161, R171). A SET_CONFIG that is not refused is read back by GET_CONFIG, clamped or made 0
or 1 as section 9.5 gives, whatever else the write caused (R161, R165); a refused one changes nothing. The row is the arrival
of the request, executed at once in a Ready state (notes/assumptions/2.md). -/
def Obligations.ConfigReads : Prop :=
  ((∀ (tag : Tag) (index : Byte) (s : State), Ready s →
        let gives (item : ConfigItem) (body : List Byte) : Prop :=
          exec (.getConfig tag item index) s = .next (answered tag 4 .ok body s)
        gives .channelEnable [s.cfg.channelEnable] ∧ gives .lossTimeout (nat16 s.cfg.lossTimeout) ∧
          gives .strokeMin (nat16 s.cfg.strokeMin) ∧ gives .strokeMax (nat16 s.cfg.strokeMax) ∧
          gives .pairSpan (nat8 s.cfg.pairSpan) ∧ gives .maxCycleTicks (nat24 s.cfg.maxCycleTicks) ∧
          gives .settleTimeout (nat16 s.cfg.settleTimeout) ∧ gives .eventReports [if s.cfg.eventReports then 1 else 0] ∧
          gives .linkErrLimit (nat8 s.cfg.linkErrLimit) ∧ gives .holdMs (nat16 s.cfg.holdMs) ∧
          gives .rejectMs (nat16 s.cfg.rejectMs)) ∧
      (∀ (tag : Tag) (c : Fin 8) (s : State), Ready s →
        let gives (item : ConfigItem) (body : List Byte) : Prop :=
          exec (.getConfig tag item (BitVec.ofNat 8 c.val)) s = .next (answered tag 4 .ok body s)
        gives .floorTrack [if (s.chan c).floorTrack then 1 else 0] ∧
          gives .forwardingPolicy [match (s.chan c).policy with | .drop => 0 | .all => 1 | .aroundHits => 2] ∧
          gives .pre (nat8 (s.chan c).pre) ∧ gives .post (nat8 (s.chan c).post) ∧
          gives .classMask [if s.classes[c].masked then 1 else 0] ∧
          gives .classAction
            [match s.classes[c].action with
              | .none => 0 | .alert => 1 | .reject => 2 | .holdAtEnd => 3 | .holdNow => 4]) ∧
      ∀ (tag : Tag) (item : ConfigItem) (index : Byte) (s : State), Ready s → 7 < index.toNat →
        item ∈ [.floorTrack, .forwardingPolicy, .pre, .post, .classMask, .classAction] →
          exec (.getConfig tag item index) s = .next (answered tag 4 .badValue [] s)) ∧
  ((∀ (w : ConfigWrite) (s : State), (setConfig w s).status ≠ .ok → setConfig w s = ⟨(setConfig w s).status, [], s⟩) ∧
      ∀ (w : ConfigWrite) (s : State), (setConfig w s).status = .ok →
        let read (item : ConfigItem) (index : Byte) : List Byte := (getConfig item index (setConfig w s).state).body
        match w with
        | .channelEnable i v => read .channelEnable i = [v]
        | .floorTrack i v => read .floorTrack i = [if v = 0 then 0 else 1]
        | .forwardingPolicy i v => read .forwardingPolicy i = [v]
        | .pre i v => read .pre i = [if 3 < v.toNat then 3 else v]
        | .post i v => read .post i = [if 15 < v.toNat then 15 else v]
        | .lossTimeout i v => read .lossTimeout i = bytes16 v
        | .strokeMin i v => read .strokeMin i = bytes16 v
        | .strokeMax i v => read .strokeMax i = bytes16 v
        | .pairSpan i v => read .pairSpan i = [if 127 < v.toNat then 127 else v]
        | .maxCycleTicks i v => read .maxCycleTicks i = bytes24 v
        | .settleTimeout i v => read .settleTimeout i = bytes16 v
        | .eventReports i v => read .eventReports i = [if v = 0 then 0 else 1]
        | .linkErrLimit i v => read .linkErrLimit i = [v]
        | .classMask i v => read .classMask i = [if v = 0 then 0 else 1]
        | .classAction i v => read .classAction i = [v]
        | .holdMs i v => read .holdMs i = bytes16 v
        | .rejectMs i v => read .rejectMs i = bytes16 (if v = 0 then 1 else v))

/-- The per-channel writes (R58, R140, R149): floor_track restarts the floor at 0 when it changes, the policy empties the
stage, pre is clamped at 3 and trims the queue, post is clamped at 15 and lowers post remaining; an index above 7 or a policy
above 2 is refused BAD_VALUE. The row is the arrival of the request, executed at once in a Ready state
(notes/assumptions/2.md). -/
def Obligations.ChannelConfigWrites : Prop :=
  (∀ (tag : Tag) (c : Chan) (v : Byte) (s : State), Ready s →
      let i : Byte := BitVec.ofNat 8 c.val
      let ch := s.chan c
      let stores (ch : Channel) : Host.Outcome State Fault Refusal :=
        .next (answered tag 3 .ok [] { s with chans := s.chans.set c ch })
      exec (.setFloorTrack tag i v) s =
          stores
            (if ch.floorTrack = (v != 0) then ch
            else { ch with floorTrack := v != 0, floor := 0, floorSum := 0, floorCount := 0 }) ∧
        (∀ p : Policy, v = (match p with | .drop => 0 | .all => 1 | .aroundHits => 2) →
          exec (.setForwardingPolicy tag i v) s =
            stores
              { ch with
                policy := p
                preQueue := []
                postRemaining := 0
                gapOwed := ch.gapOwed || ch.preQueue.any (·.gapBefore) }) ∧
        (2 < v.toNat → exec (.setForwardingPolicy tag i v) s = .next (answered tag 3 .badValue [] s)) ∧
        (∃ cut keep : List QueuedSample,
          ch.preQueue = cut ++ keep ∧ keep.length = min ch.preQueue.length (min 3 v.toNat) ∧
            exec (.setPre tag i v) s =
              stores
                { ch with
                  pre := min 3 v.toNat, preQueue := keep, gapOwed := ch.gapOwed || cut.any (·.gapBefore) }) ∧
        exec (.setPost tag i v) s =
          stores { ch with post := min 15 v.toNat, postRemaining := min ch.postRemaining (min 15 v.toNat) }) ∧
    ∀ (tag : Tag) (i v : Byte) (s : State) (c : Instr), Ready s → 7 < i.toNat →
      c ∈ [.setFloorTrack tag i v, .setForwardingPolicy tag i v, .setPre tag i v, .setPost tag i v] →
        exec c s = .next (answered tag 3 .badValue [] s)

/-- The writes that only store (R23, R93, R125, R129, R131, R165): the stroke limits in range and in order empty the history
and keep the last accepted tick; event_reports, a class's mask and action for classes 0 to 6, hold_ms with 0 stopping a
running hold timer, reject_ms from 0, taken as 1, to 255. Values out of range are refused BAD_VALUE. The row is the arrival
of the request, executed at once in a Ready state (notes/assumptions/2.md). A write of a stroke limit leaves STROKE_LOST as
it is (notes/assumptions/9.md). -/
def Obligations.StoredConfigWrites : Prop :=
  ∀ (tag : Tag) (i : Byte) (s : State), Ready s →
    let bad : Host.Outcome State Fault Refusal := .next (answered tag 3 .badValue [] s)
    (∀ v : BitVec 16,
        exec (.setStrokeMin tag i v) s =
            (if 100 ≤ v.toNat ∧ v.toNat ≤ 10000 ∧ v.toNat < s.cfg.strokeMax then
              .next (answered tag 3 .ok [] { s with cfg := { s.cfg with strokeMin := v.toNat }, strokes := [] })
            else bad) ∧
          exec (.setStrokeMax tag i v) s =
            (if 100 ≤ v.toNat ∧ v.toNat ≤ 10000 ∧ s.cfg.strokeMin < v.toNat then
              .next (answered tag 3 .ok [] { s with cfg := { s.cfg with strokeMax := v.toNat }, strokes := [] })
            else bad) ∧
          exec (.setHoldMs tag i v) s =
            .next
              (answered tag 3 .ok []
                { s with
                  cfg := { s.cfg with holdMs := v.toNat }
                  holdExpiry := if v = 0 then none else s.holdExpiry }) ∧
          exec (.setRejectMs tag i v) s =
            (if v.toNat ≤ 255 then
              .next (answered tag 3 .ok [] { s with cfg := { s.cfg with rejectMs := max 1 v.toNat } })
            else bad)) ∧
      (∀ v : Byte,
        exec (.setEventReports tag i v) s =
          .next (answered tag 3 .ok [] { s with cfg := { s.cfg with eventReports := v != 0 } })) ∧
      (∀ (v : Byte) (k : ClassIx), i = BitVec.ofNat 8 k.val → k ≠ 7 →
        exec (.setClassMask tag i v) s =
            .next
              (answered tag 3 .ok [] { s with classes := s.classes.set k { s.classes[k] with masked := v != 0 } }) ∧
          (∀ a : ActionCode,
            v = (match a with | .none => 0 | .alert => 1 | .reject => 2 | .holdAtEnd => 3 | .holdNow => 4) →
              exec (.setClassAction tag i v) s =
                .next
                  (answered tag 3 .ok [] { s with classes := s.classes.set k { s.classes[k] with action := a } })) ∧
          (4 < v.toNat → exec (.setClassAction tag i v) s = bad)) ∧
      ∀ v : Byte, 7 ≤ i.toNat → exec (.setClassMask tag i v) s = bad ∧ exec (.setClassAction tag i v) s = bad

/-- The writes that act at once (R35, R36, R37, R43, R49, R83, R85): loss_timeout from 16 makes LOST every LIVE channel past
it, as LOSS_TIMEOUT of each channel in turn does on the written state, pair_span from 1, clamped at 127, resolves and settles
with the new value, max_cycle_ticks from 50,000 and settle_timeout from 1,000 close a cycle past them, as CYCLE_TIMEOUT and
SETTLE_TIMEOUT do on the written state within the execution, link_err_limit from 1 judges LINK_ERR. Values below are refused
BAD_VALUE. The row is the arrival of the request, executed at once in a Ready state (notes/assumptions/2.md). The resolution
test comes before the settle test at one occasion (notes/assumptions/26.md). Channels are taken in ascending order
(notes/assumptions/13.md). -/
def Obligations.ActingConfigWrites : Prop :=
  ∀ (tag : Tag) (i : Byte) (s : State), Ready s →
    let bad : Host.Outcome State Fault Refusal := .next (answered tag 3 .badValue [] s)
    let executing (s : State) : State := { s with held := true, deferred := true }
    let executed (s : State) : State := { s with held := false, deferred := false }
    let expire (o : Host.Outcome State Fault Refusal) (c : Chan) : Host.Outcome State Fault Refusal :=
      match o with
      | .next u => exec (.lossTimeout c) u
      | stop => stop
    (∀ v : BitVec 16,
        (v.toNat < 16 → exec (.setLossTimeout tag i v) s = bad) ∧
          (16 ≤ v.toNat →
            ∃ t, exec (.setLossTimeout tag i v) s = .next (answered tag 3 .ok [] t) ∧
              t.cfg = { s.cfg with lossTimeout := v.toNat } ∧ SameBase s t ∧ t.run = s.run ∧
              (∀ c,
                if (s.chan c).intake = .live ∧ ∃ f, (s.chan c).lossFrom = some f ∧ (v.toNat : Int) ≤ (s.tick - f).toInt
                then (t.chan c).intake = .lost ∧ (t.chan c).expected = none
                else t.chan c = s.chan c) ∧
              ∃ u,
                ([0, 1, 2, 3, 4, 5, 6, 7] : List Chan).foldl expire
                    (.next (executing { s with cfg := { s.cfg with lossTimeout := v.toNat } })) =
                  .next u ∧
                  t = executed u)) ∧
      (∀ v : Byte,
        (v = 0 → exec (.setPairSpan tag i v) s = bad) ∧
          (v ≠ 0 →
            ∃ t, exec (.setPairSpan tag i v) s = .next (answered tag 3 .ok [] t) ∧
              t.cfg = { s.cfg with pairSpan := min 127 v.toNat } ∧ t.chans = s.chans ∧ SameBase s t ∧ t.run = s.run ∧
              (∀ h rest, t.hits = h :: rest → headReady h t = false) ∧ settleReached t = false ∧
              t = executed (settledMoved (executing { s with cfg := { s.cfg with pairSpan := min 127 v.toNat } })))) ∧
      (∀ v : BitVec 24,
        (v.toNat < 50000 → exec (.setMaxCycleTicks tag i v) s = bad) ∧
          (50000 ≤ v.toNat →
            let s' : State := { s with cfg := { s.cfg with maxCycleTicks := v.toNat } }
            (cycleTimeoutDue s' = false → exec (.setMaxCycleTicks tag i v) s = .next (answered tag 3 .ok [] s')) ∧
              (cycleTimeoutDue s' = true →
                ∃ u t, exec .cycleTimeout (executing s') = .next u ∧ t = executed u ∧
                  exec (.setMaxCycleTicks tag i v) s = .next (answered tag 3 .ok [] t) ∧ t.cfg = s'.cfg ∧
                  t.cycle = none ∧ t.hits = [] ∧ SameBase s t ∧ t.run = s.run))) ∧
      (∀ v : BitVec 16,
        (v.toNat < 1000 → exec (.setSettleTimeout tag i v) s = bad) ∧
          (1000 ≤ v.toNat →
            let s' : State := { s with cfg := { s.cfg with settleTimeout := v.toNat } }
            (settleTimeoutDue s' = false → exec (.setSettleTimeout tag i v) s = .next (answered tag 3 .ok [] s')) ∧
              (settleTimeoutDue s' = true →
                ∃ u t, exec .settleTimeout (executing s') = .next u ∧ t = executed u ∧
                  exec (.setSettleTimeout tag i v) s = .next (answered tag 3 .ok [] t) ∧ t.cfg = s'.cfg ∧
                  t.cycle = none ∧ t.hits = [] ∧ SameBase s t ∧ t.run = s.run))) ∧
      ∀ v : Byte,
        (v = 0 → exec (.setLinkErrLimit tag i v) s = bad) ∧
          (v ≠ 0 →
            ∃ t, exec (.setLinkErrLimit tag i v) s = .next (answered tag 3 .ok [] t) ∧
              t.cfg = { s.cfg with linkErrLimit := v.toNat } ∧
              t.classes[clsLinkErr].cond = decide (v.toNat ≤ s.cnt.headLinkCrc) ∧
              (∀ k, k ≠ clsLinkErr → t.classes[k] = s.classes[k]) ∧ t.chans = s.chans ∧ t.slots = s.slots ∧
              t.cnt = s.cnt ∧ t.hits = s.hits ∧ SameBase s t ∧ t.run = s.run)

/-- A write of channel_enable (R47, R51, R73, R149): a flag newly set makes its channel WAITING, a flag newly cleared makes
it OFF with no hit, no expected tick, no loss timer, no settled tick, an empty floor block and an empty forwarding stage
whose gap marks become owed, and keeps the rest of it; a hit open then is discarded, which leaves the detector BLOCKED
without a dead-time end tick (R73), and without one both stand as they were (R61, R73); another flag leaves the channel as it
was; and CHANNEL_LOST is judged with the new flags. The zones that use a channel newly enabled while the cycle is OPEN, or
disabled from LIVE with its expected tick before the end tick or that absent, join the blind set (R54). The row is the
arrival of the request, executed at once in a Ready state (notes/assumptions/2.md). The resolution test comes before the
settle test at one occasion (notes/assumptions/26.md). -/
def Obligations.ChannelEnableWrites : Prop :=
  ∀ (tag : Tag) (i v : Byte) (s : State), Ready s →
    ∃ t : State,
      exec (.setChannelEnable tag i v) s = .next (answered tag 3 .ok [] t) ∧ t.cfg = { s.cfg with channelEnable := v } ∧
        SameBase s t ∧ t.run = s.run ∧
        (∀ c : Chan,
          let was := s.cfg.channelEnable.getLsbD c.val
          let now := v.getLsbD c.val
          (was = now → t.chan c = s.chan c) ∧
            (was = false → now = true →
              t.chan c = { s.chan c with intake := .waiting, expected := none, lossFrom := none }) ∧
            (was = true → now = false →
              let ch := s.chan c
              t.chan c =
                { ch with
                  intake := .off, expected := none, lossFrom := none, floorSum := 0, floorCount := 0, sigma := none
                  openHit := none
                  det := if ch.openHit.isSome then .blocked else ch.det
                  deadTime := if ch.openHit.isSome then none else ch.deadTime
                  preQueue := [], postRemaining := 0
                  gapOwed := ch.gapOwed || ch.preQueue.any (·.gapBefore) })) ∧
        t.classes[clsChannelLost].cond = decide (∃ c, v.getLsbD c.val = true ∧ (t.chan c).intake = .lost) ∧
        ∀ cy cy', s.cycle = some cy → t.cycle = some cy' →
          ∀ z, z ∈ cy'.blind ↔
            z ∈ cy.blind ∨
              ∃ c : Chan, ZoneUses s c z ∧
                (s.cfg.channelEnable.getLsbD c.val = false ∧ v.getLsbD c.val = true ∧ cy.closingEntry = none ∨
                  s.cfg.channelEnable.getLsbD c.val = true ∧ v.getLsbD c.val = false ∧ (s.chan c).intake = .live ∧
                    ∃ x, (s.chan c).expected = some x ∧ ∀ e ∈ cy.endTick, 0 < (e - x).toInt)

/-- WRITE_SLOT_HEADER with its checks in order, and what it writes: a new slot with default records and UNDEFINED zones, or
the ID, a cycle count of 0 and a runtime reset of every zone that is not CRACK (R2, R5, R9, R10, R11). WRITE_CHANNEL replaces
one record after its checks in order: slot and channel, EMPTY, in use, ranges (R5, R10, R12). The row is the arrival of the
request, executed at once in a Ready state (notes/assumptions/2.md). -/
def Obligations.HeaderAndRecordWrites : Prop :=
  (∀ (tag : Tag) (b : Byte) (m : MouldId) (s : State), Ready s →
      let refused (st : Status) : Host.Outcome State Fault Refusal := .next (answered tag 5 st [] s)
      (7 < b.toNat ∨ m = 0 ∨ m = 0xFFFF → exec (.writeSlotHeader tag b m) s = refused .badValue) ∧
        ∀ k : SlotIx, b = BitVec.ofNat 8 k.val → m ≠ 0 → m ≠ 0xFFFF →
          let latched := ∃ p z r, (s.slot k).profile = some p ∧ p.mouldId ≠ m ∧ p.zones[(z : ZoneIx)] = some r ∧
            r.rt.state = .crack
          let taken := ∃ j p, j ≠ k ∧ (s.slot j).profile = some p ∧ p.mouldId = m
          ((s.slot k).inUse = true → exec (.writeSlotHeader tag b m) s = refused .inUse) ∧
            ((s.slot k).inUse = false → latched → exec (.writeSlotHeader tag b m) s = refused .zoneLatched) ∧
            ((s.slot k).inUse = false → ¬latched → taken →
              exec (.writeSlotHeader tag b m) s = refused .duplicateId) ∧
            ((s.slot k).inUse = false → ¬latched → ¬taken →
              ∃ p : Profile,
                exec (.writeSlotHeader tag b m) s =
                    .next (answered tag 5 .ok [] { s with slots := s.slots.set k ⟨some p, false⟩ }) ∧
                  p.mouldId = m ∧ p.cycleCount = 0 ∧
                  ((s.slot k).profile = none →
                    (∀ c : Chan, p.records[c] = ⟨4095, 4095, 4095, 0, 0⟩) ∧ ∀ z : ZoneIx, p.zones[z] = none) ∧
                  ∀ q, (s.slot k).profile = some q →
                    p.records = q.records ∧
                      ∀ z : ZoneIx,
                        p.zones[z] =
                          (q.zones[z]).map fun r =>
                            if r.rt.state = .crack then r else { r with rt := ⟨.clear, 0, 0, none, none⟩ })) ∧
  (∀ (tag : Tag) (a b : Byte) (f : ChannelFields) (s : State), Ready s →
      let refused (st : Status) : Host.Outcome State Fault Refusal := .next (answered tag 6 st [] s)
      let ok := f.marginVib.toNat ≤ 4095 ∧ f.marginStrip.toNat ≤ 4095 ∧ f.marginOther.toNat ≤ 4095 ∧ f.hysteresis.toNat ≤ 1023
      (7 < a.toNat ∨ 7 < b.toNat → exec (.writeChannel tag a b f) s = refused .badValue) ∧
        ∀ (k : SlotIx) (c : Chan), a = BitVec.ofNat 8 k.val → b = BitVec.ofNat 8 c.val →
          ((s.slot k).profile = none → exec (.writeChannel tag a b f) s = refused .noSlot) ∧
            ∀ p, (s.slot k).profile = some p →
              ((s.slot k).inUse = true → exec (.writeChannel tag a b f) s = refused .inUse) ∧
                ((s.slot k).inUse = false → ¬ok → exec (.writeChannel tag a b f) s = refused .badValue) ∧
                ((s.slot k).inUse = false → ok →
                  exec (.writeChannel tag a b f) s =
                    .next
                      (answered tag 6 .ok []
                        { s with
                          slots := s.slots.set k
                            ⟨some
                                { p with
                                  records := p.records.set c
                                    ⟨f.marginVib.toNat, f.marginStrip.toNat, f.marginOther.toNat, f.hysteresis.toNat,
                                      f.deadTime.toNat⟩ },
                              false⟩ })))

/-- WRITE_ZONE replaces one zone after its checks in order: slot and zone, EMPTY, in use, CRACK, the fields; a DEFINED zone
starts with a runtime reset, and one of the written types is UNDEFINED (R6, R9, R10, R13). The fields that a WRITE_ZONE of
type PAIR or SINGLE may carry (R6, R13, R172): the channels and for PAIR the window, bit 6 of the first byte and the upper
phase bits clear, min_area, count_limit, leak_shift, the levels, trip_cycles and the action codes in range. The row is the
arrival of the request, executed at once in a Ready state (notes/assumptions/2.md). -/
def Obligations.ZoneWrites : Prop :=
  (∀ (tag : Tag) (a b : Byte) (f : ZoneFields) (s : State), Ready s →
      let refused (st : Status) : Host.Outcome State Fault Refusal := .next (answered tag 7 st [] s)
      (7 < a.toNat ∨ 15 < b.toNat → exec (.writeZone tag a b f) s = refused .badValue) ∧
        ∀ (k : SlotIx) (z : ZoneIx), a = BitVec.ofNat 8 k.val → b = BitVec.ofNat 8 z.val →
          ((s.slot k).profile = none → exec (.writeZone tag a b f) s = refused .noSlot) ∧
            ∀ p, (s.slot k).profile = some p →
              let crack := ∃ r, p.zones[z] = some r ∧ r.rt.state = .crack
              let stores (r : Option Zone) : Host.Outcome State Fault Refusal :=
                .next
                  (answered tag 7 .ok [] { s with slots := s.slots.set k ⟨some { p with zones := p.zones.set z r }, false⟩ })
              ((s.slot k).inUse = true → exec (.writeZone tag a b f) s = refused .inUse) ∧
                ((s.slot k).inUse = false → crack → exec (.writeZone tag a b f) s = refused .zoneLatched) ∧
                ((s.slot k).inUse = false → ¬crack →
                  (zoneWriteOf f = .bad → exec (.writeZone tag a b f) s = refused .badValue) ∧
                    (f.kind = 0 → exec (.writeZone tag a b f) s = stores none) ∧
                    ∀ d, zoneWriteOf f = .define d →
                      exec (.writeZone tag a b f) s = stores (some ⟨d, ⟨.clear, 0, 0, none, none⟩⟩) ∧ ZoneDefInv d)) ∧
  (∀ f : ZoneFields,
      (zoneWriteOf f = .undefined ↔ f.kind = 0) ∧
        ((∃ d, zoneWriteOf f = .define d) ↔
          f.chX.toNat ≤ 7 ∧
            (f.kind = 1 ∧ f.chY.toNat ≤ 7 ∧ f.chY ≠ f.chX ∧ -127 ≤ f.dmin.toInt ∧ f.dmin.toInt ≤ f.dmax.toInt ∨ f.kind = 2) ∧
            f.spare = 0 ∧ f.phaseMask.toNat < 64 ∧ f.minArea.toNat ≤ 2097151 ∧ 1 ≤ f.countLimit.toNat ∧
            1 ≤ f.leakShift.toNat ∧ 1 ≤ f.watchLevel.toNat ∧ f.watchLevel.toNat ≤ 65534 ∧
            f.watchHyst.toNat ≤ f.watchLevel.toNat ∧ f.watchLevel.toNat < f.tripLevel.toNat ∧ 1 ≤ f.tripCycles.toNat ∧
            f.tripCycles.toNat ≤ 8 ∧ f.watchCode.toNat ≤ 4 ∧ f.crackCode.toNat ≤ 4) ∧
        ∀ d, zoneWriteOf f = .define d →
          d.kind =
              (if f.kind = 1 then
                .pair (Fin.ofNat 8 f.chX.toNat) (Fin.ofNat 8 f.chY.toNat) f.dmin.toInt f.dmax.toInt
              else .single (Fin.ofNat 8 f.chX.toNat)) ∧
            (∀ n < 6, d.phaseMask.getLsbD n = f.phaseMask.getLsbD n) ∧ d.gateLo = f.gateLo.toNat ∧
            d.gateHi = f.gateHi.toNat ∧ d.requirePhase = f.requirePhase.getLsbD 0 ∧ d.minArea = f.minArea.toNat ∧
            d.countLimit = f.countLimit.toNat ∧ d.areaShift = f.areaShift.toNat ∧ d.leakShift = f.leakShift.toNat ∧
            d.watchLevel = f.watchLevel.toNat ∧ d.watchHyst = f.watchHyst.toNat ∧ d.tripLevel = f.tripLevel.toNat ∧
            d.tripCycles = f.tripCycles.toNat ∧ actionOf f.watchCode.toNat = some d.watchAction.code ∧
            d.watchAction.repeats = f.watchRepeat.getLsbD 0 ∧ actionOf f.crackCode.toNat = some d.crackAction.code ∧
            d.crackAction.repeats = f.crackRepeat.getLsbD 0)

/-- CLEAR_SLOT makes a slot that is not in use EMPTY; ACK_ZONE sets a DEFINED zone's E and n to 0 and takes CRACK to CLEAR,
in use or not (R10, R14, R15). The row is the arrival of the request, executed at once in a Ready state
(notes/assumptions/2.md). -/
def Obligations.ClearsAndAcknowledgements : Prop :=
  (∀ (tag : Tag) (a : Byte) (s : State), Ready s →
      (7 < a.toNat → exec (.clearSlot tag a) s = .next (answered tag 8 .badValue [] s)) ∧
        ∀ k : SlotIx, a = BitVec.ofNat 8 k.val →
          exec (.clearSlot tag a) s =
            if (s.slot k).inUse then .next (answered tag 8 .inUse [] s)
            else .next (answered tag 8 .ok [] { s with slots := s.slots.set k ⟨none, false⟩ })) ∧
    ∀ (tag : Tag) (a b : Byte) (s : State), Ready s →
      (7 < a.toNat ∨ 15 < b.toNat → exec (.ackZone tag a b) s = .next (answered tag 9 .badValue [] s)) ∧
        ∀ (k : SlotIx) (z : ZoneIx), a = BitVec.ofNat 8 k.val → b = BitVec.ofNat 8 z.val →
          ((s.slot k).profile = none → exec (.ackZone tag a b) s = .next (answered tag 9 .noSlot [] s)) ∧
            ∀ p, (s.slot k).profile = some p →
              (p.zones[z] = none → exec (.ackZone tag a b) s = .next (answered tag 9 .badValue [] s)) ∧
                ∀ r, p.zones[z] = some r →
                  exec (.ackZone tag a b) s =
                    .next
                      (answered tag 9 .ok []
                        { s with
                          slots := s.slots.set k
                            { s.slot k with
                              profile := some
                                { p with
                                  zones := p.zones.set z
                                    (some
                                      { r with
                                        rt :=
                                          if r.rt.state = .crack then
                                            { r.rt with state := .clear, evidence := 0, count := 0, crackCycle := none }
                                          else { r.rt with evidence := 0, count := 0 } }) } } })

/-- READ_SLOT returns 80 bytes and READ_ZONES a count and thirty bytes for each zone of a range of one to eight, which starts
at first; neither changes anything (R10, R16, R162, R172). A channel record is nine bytes. A zone record is thirty: an
UNDEFINED zone reads as zeros, a DEFINED one as the nineteen bytes of its definition, field by field, and the eleven of its
runtime, an absent field as 0; and a WRITE_ZONE that carried those nineteen bytes would define that zone (R13, R172). The row
is the arrival of the request, executed at once in a Ready state (notes/assumptions/2.md). -/
def Obligations.TableReads : Prop :=
  (∀ (tag : Tag) (a : Byte) (s : State), Ready s →
      (7 < a.toNat → exec (.readSlot tag a) s = .next (answered tag 10 .badValue [] s)) ∧
        ∀ k : SlotIx, a = BitVec.ofNat 8 k.val →
          ∃ body,
            exec (.readSlot tag a) s = .next (answered tag 10 .ok body s) ∧ body.length = 80 ∧
              body.take 2 =
                [if (s.slot k).profile.isSome then 1 else 0, if (s.slot k).inUse then 1 else 0] ∧
              (∀ p, (s.slot k).profile = some p →
                body.drop 2 =
                  bytes16 p.mouldId ++ nat32 p.cycleCount ++ (allChans.map fun c => p.records[c].bytes).flatten) ∧
              ((s.slot k).profile = none → body.drop 2 = List.replicate 78 0)) ∧
  (∀ (tag : Tag) (a first last : Byte) (s : State), Ready s →
      (7 < a.toNat ∨ 15 < first.toNat → exec (.readZones tag a first last) s = .next (answered tag 11 .badValue [] s)) ∧
        ∀ k : SlotIx, a = BitVec.ofNat 8 k.val → first.toNat ≤ 15 →
          ((s.slot k).profile = none → exec (.readZones tag a first last) s = .next (answered tag 11 .noSlot [] s)) ∧
            ∀ p, (s.slot k).profile = some p →
              ∃ range : List ZoneIx,
                exec (.readZones tag a first last) s =
                    .next
                      (answered tag 11 .ok
                        (BitVec.ofNat 8 range.length :: (range.map fun z => zoneBytes p.zones[z]).flatten) s) ∧
                  1 ≤ range.length ∧ range.length ≤ 8 ∧
                  range.length =
                    min (first.toNat + 7) (max first.toNat (min 15 last.toNat)) - first.toNat + 1 ∧
                  ∀ (n : Nat) (z : ZoneIx), range[n]? = some z → z.val = first.toNat + n) ∧
  (∀ r : ChanRecord,
    r.bytes =
      nat16 r.marginVib ++ nat16 r.marginStrip ++ nat16 r.marginOther ++ nat16 r.hysteresis ++
        [BitVec.ofNat 8 r.deadTime]) ∧
  zoneBytes none = List.replicate 30 0 ∧ (∀ r : Option Zone, (zoneBytes r).length = 30) ∧
  (∀ (d : ZoneDef) (rt : Runtime), ZoneDefInv d → rt.count ≤ 8 →
    let flag (b : Bool) : BitVec 1 := if b then 1 else 0
    let code (a : ActionCode) : BitVec 3 :=
      match a with | .none => 0 | .alert => 1 | .reject => 2 | .holdAtEnd => 3 | .holdNow => 4
    zoneBytes (some ⟨d, rt⟩) =
      (match d.kind with
        | .pair x y lo hi =>
          [flag d.requirePhase ++ (0 : BitVec 1) ++ BitVec.ofNat 4 d.tripCycles ++ (1 : BitVec 2),
            BitVec.ofNat 4 x.val ++ BitVec.ofNat 4 y.val, BitVec.ofInt 8 lo, BitVec.ofInt 8 hi]
        | .single x =>
          [flag d.requirePhase ++ (0 : BitVec 1) ++ BitVec.ofNat 4 d.tripCycles ++ (2 : BitVec 2),
            BitVec.ofNat 4 x.val ++ (0 : BitVec 4), 0, 0]) ++
        [(0 : BitVec 2) ++ d.phaseMask, BitVec.ofNat 8 d.gateLo, BitVec.ofNat 8 d.gateHi] ++ nat24 d.minArea ++
        [BitVec.ofNat 8 d.countLimit, BitVec.ofNat 4 d.areaShift ++ BitVec.ofNat 4 d.leakShift] ++ nat16 d.watchLevel ++
        nat16 d.watchHyst ++ nat16 d.tripLevel ++
        [flag d.crackAction.repeats ++ code d.crackAction.code ++ flag d.watchAction.repeats ++ code d.watchAction.code] ++
        [flag rt.lastCycle.isSome ++ flag rt.crackCycle.isSome ++ BitVec.ofNat 4 rt.count ++
            (match rt.state with | .clear => (0 : BitVec 2) | .watch => 1 | .crack => 2)] ++
        nat16 rt.evidence ++ bytes32 (rt.crackCycle.getD 0) ++ bytes32 (rt.lastCycle.getD 0) ∧
      ∃ f : ZoneFields, zoneFieldsOf ((zoneBytes (some ⟨d, rt⟩)).take 19) = some f ∧ zoneWriteOf f = .define d)

/-- START sets RUNNING; STOP with the cycle IDLE sets STOPPED; RELEASE_HOLD of all empties both hold sets and stops the hold
timer, of one identifier takes it from both and stops the timer when none is left, and refuses an identifier above 135 or
another flag BAD_VALUE (R26, R130, R163, R171). The row is the arrival of the request, executed at once in a Ready state
(notes/assumptions/2.md). -/
def Obligations.RunAndRelease : Prop :=
  ∀ (tag : Tag) (s : State), Ready s →
    exec (.start tag) s = .next (answered tag 12 .ok [] { s with run := .running }) ∧
      (s.cycle = none → exec (.stop tag) s = .next (answered tag 13 .ok [] { s with run := .stopped })) ∧
      (∀ id : Byte,
        exec (.releaseHoldAll tag id) s =
            .next (answered tag 14 .ok [] { s with holdSet := [], pendingHold := [], holdExpiry := none }) ∧
          (id.toNat ≤ 135 →
            exec (.releaseHoldOne tag 0 id) s =
              .next
                (answered tag 14 .ok []
                  { s with
                    holdSet := s.holdSet.filter (· != id.toNat)
                    pendingHold := s.pendingHold.filter (· != id.toNat)
                    holdExpiry := if s.holdSet.filter (· != id.toNat) = [] then none else s.holdExpiry })) ∧
          (135 < id.toNat → exec (.releaseHoldOne tag 0 id) s = .next (answered tag 14 .badValue [] s)) ∧
          ∀ flag : Byte, flag ≠ 0 → flag ≠ 1 →
            exec (.releaseHoldOne tag flag id) s = .next (answered tag 14 .badValue [] s))

/-- STOP with a cycle OPEN or CLOSING abandons it (R39, R73, R96, R128, R163): STOPPED and IDLE, no open and no pending hit,
the closed horizon at the current tick, the slot released unevaluated, the pending holds moved, and the ABANDONED report with
no zone entry in the control lane ahead of the RESPONSE, or lost and marked when only the held entry is free. The row is the
arrival of the request, executed at once in a Ready state (notes/assumptions/2.md). -/
def Obligations.StopAbandons : Prop :=
  ∀ (tag : Tag) (cy : Cycle) (s : State), Ready s → s.cycle = some cy →
    ∃ t : State,
      exec (.stop tag) s = .next (answered tag 13 .ok [] t) ∧ t.run = .stopped ∧ t.cycle = none ∧ t.hits = [] ∧
        (∀ c, (t.chan c).openHit = none ∧ (t.chan c).intake = (s.chan c).intake) ∧ t.horizon = some s.tick ∧
        t.pendingHold = [] ∧ (∀ n, n ∈ s.holdSet ∨ n ∈ s.pendingHold → n ∈ t.holdSet) ∧
        (∀ k, t.slot k = if cy.slot = some k then { s.slot k with inUse := false } else s.slot k) ∧
        (∃ r : Report,
          r.number = cy.number ∧ r.mould = cy.mould ∧ r.slot = cy.slot ∧ r.counts = cy.counts ∧ r.zones = [] ∧
            r.flags = { cy.flags with abandoned := true, reportLost := s.reportLost } ∧
            (s.controlLane.length < 15 → t.controlLane = s.controlLane ++ [.cycle r] ∧ t.cnt = s.cnt) ∧
            (s.controlLane.length = 15 →
              t.controlLane = s.controlLane ∧ t.reportLost = true ∧
                t.cnt = { s.cnt with reportsLost := min 65535 (s.cnt.reportsLost + 1) })) ∧
        SameBase s t ∧ t.cfg = s.cfg ∧ t.sampleLane = s.sampleLane ∧ t.tx = s.tx

/-- INJECT_HIT (R79, R81, R94, R175, R176): refused BAD_VALUE on its values, NOT_OPEN without an OPEN cycle, a LIVE channel
that has settled, or a start in the window; otherwise the injected hit is counted on its channel and in the cycle and joins
the pending list as any hit handed on does, whatever the list holds. The row is the arrival of the request, executed at once
in a Ready state (notes/assumptions/2.md). -/
def Obligations.InjectedHits : Prop :=
  ∀ (tag : Tag) (a off dur : Byte) (peak : BitVec 16) (area : BitVec 24) (s : State), Ready s →
    let run := exec (.injectHit tag a off dur peak area) s
    (7 < a.toNat ∨ dur = 0 ∨ 4095 < peak.toNat ∨ 4095 * dur.toNat < area.toNat →
        run = .next (answered tag 15 .badValue [] s)) ∧
      ∀ c : Chan, a = BitVec.ofNat 8 c.val → dur ≠ 0 → peak.toNat ≤ 4095 → area.toNat ≤ 4095 * dur.toNat →
        (s.cycleState ≠ .opened ∨ (s.chan c).intake ≠ .live ∨ (s.chan c).sigma = none →
            run = .next (answered tag 15 .notOpen [] s)) ∧
          ∀ cy g, s.cycle = some cy → cy.closingEntry = none → (s.chan c).intake = .live → (s.chan c).sigma = some g →
            let start := g - BitVec.ofNat 32 off.toNat
            let record : Hit :=
              { chan := c, cycle := cy.number, start := start, duration := dur.toNat, peak := peak.toNat,
                rise := 0, area := area.toNat, phase := phaseAt cy.log start, angle := angleAt s start,
                truncated := false, long := false, injected := true }
            (0 < (cy.startTick - start).toInt → run = .next (answered tag 15 .notOpen [] s)) ∧
              ((cy.startTick - start).toInt ≤ 0 →
                ∃ (t : State) (cy' : Cycle),
                  run = .next (answered tag 15 .ok [] t) ∧ t.cycle = some cy' ∧ cy'.number = cy.number ∧
                    cy'.counts.hitsClosed = min 4294967295 (cy.counts.hitsClosed + 1) ∧
                    t.chan c =
                      { s.chan c with
                        cnt :=
                          { (s.chan c).cnt with hitsClosed := min 4294967295 ((s.chan c).cnt.hitsClosed + 1) } } ∧
                    (∀ d, d ≠ c → t.chan d = s.chan d) ∧ t.slots = s.slots ∧ SameBase s t ∧ t.run = s.run ∧ t.cfg = s.cfg ∧
                    (s.hits = [] → headReady record s = false → t.hits = [record]) ∧
                    t =
                      { joinList record
                          { s with
                            held := true, deferred := true
                            chans := s.chans.set c
                              { s.chan c with
                                cnt :=
                                  { (s.chan c).cnt with
                                    hitsClosed := min 4294967295 ((s.chan c).cnt.hitsClosed + 1) } } } with
                        held := false, deferred := false })

/-- FORCE_FAULT sets every class's forced bit to its bit of the mask, marks the classes that rise sticky, changes no
condition, and touches neither the channels, the table, the counters nor the stroke history (R122, R177, R178). An unmasked
class that rises fires its action and causes the alert: HOLD_NOW and HOLD_AT_END enter their sets, each by its identifier,
the hold timer starts, REJECT runs the pulse and flags the cycle; with none that rises unmasked, the outputs stay (R122,
R126, R128, R129, R132, R133, R134, R177). The row is the arrival of the request, executed at once in a Ready state
(notes/assumptions/2.md). -/
def Obligations.ForcedFaults : Prop :=
  ∀ (tag : Tag) (mask : Byte) (s : State), Ready s →
    let fires (k : ClassIx) : Bool :=
      mask.getLsbD k.val && !s.classes[k].cond && !s.classes[k].forced && !s.classes[k].masked
    let holdsNow (k : ClassIx) : Prop :=
      fires k = true ∧
        (s.classes[k].action = .holdNow ∨ s.classes[k].action = .holdAtEnd ∧ s.cycle = none)
    let rejects (k : ClassIx) : Prop := fires k = true ∧ s.classes[k].action = .reject
    ∃ t : State,
      exec (.forceFault tag mask) s = .next (answered tag 16 .ok [] t) ∧
        (∀ k : ClassIx,
          t.classes[k] =
            { s.classes[k] with
              forced := mask.getLsbD k.val
              sticky := s.classes[k].sticky ||
                (mask.getLsbD k.val && !s.classes[k].cond && !s.classes[k].forced) } ∧
            t.news.changed.getLsbD k.val =
              (s.news.changed.getLsbD k.val ||
                ((s.classes[k].cond || s.classes[k].forced) != (s.classes[k].cond || mask.getLsbD k.val)))) ∧
        ((∀ k : ClassIx, s.classes[k].masked = true) →
          t.alert = s.alert ∧ t.holdSet = s.holdSet ∧ t.pendingHold = s.pendingHold ∧ t.rejectExpiry = s.rejectExpiry) ∧
        t.chans = s.chans ∧ t.slots = s.slots ∧ t.cnt = s.cnt ∧ t.cfg = s.cfg ∧ t.hits = s.hits ∧ t.run = s.run ∧
        t.controlLane = s.controlLane ∧ t.sampleLane = s.sampleLane ∧ t.news.zoneAlerts = s.news.zoneAlerts ∧ SameBase s t ∧
        ((∀ k, fires k = false) → t.alert = s.alert ∧ t.rePend = s.rePend) ∧
        (∀ k, fires k = true →
          t.alert = (if s.alert = .sending then .sending else .pending) ∧
            t.rePend = (s.rePend || s.alert == .sending)) ∧
        (∀ n, n ∈ t.holdSet ↔ n ∈ s.holdSet ∨ ∃ k, holdsNow k ∧ n = 128 + k.val) ∧
        ((∀ k, ¬holdsNow k) → t.holdExpiry = s.holdExpiry) ∧
        (∀ k, holdsNow k →
          t.holdExpiry =
            if s.cfg.holdMs = 0 then s.holdExpiry else some (s.tick + BitVec.ofNat 32 (50 * s.cfg.holdMs))) ∧
        (∀ n, n ∈ t.pendingHold ↔
          n ∈ s.pendingHold ∨
            ∃ k, fires k = true ∧ s.classes[k].action = .holdAtEnd ∧ s.cycle ≠ none ∧ n = 128 + k.val) ∧
        ((∀ k, ¬rejects k) → t.rejectExpiry = s.rejectExpiry ∧ t.cycle = s.cycle) ∧
        (∀ k, rejects k →
          t.rejectExpiry = some (s.tick + BitVec.ofNat 32 (50 * s.cfg.rejectMs)) ∧
            t.cycle = s.cycle.map fun cy => { cy with flags := { cy.flags with reject := true } }) ∧
        t =
          { s with
            classes := t.classes, alert := t.alert, rePend := t.rePend, holdSet := t.holdSet, holdExpiry := t.holdExpiry
            pendingHold := t.pendingHold, rejectExpiry := t.rejectExpiry, cycle := t.cycle
            news := { s.news with changed := t.news.changed }
            newsSince := { s.newsSince with changed := t.newsSince.changed } } ∧
        ∀ k : ClassIx,
          t.newsSince.changed.getLsbD k.val =
            (s.newsSince.changed.getLsbD k.val || t.classes[k].live != s.classes[k].live)

/-- RESTART resets the working state and keeps the table, the configuration, the holds and the time base (R17, R41, R60, R79,
R98, R137, R151, R164, R165): STOPPED and IDLE, every enabled channel WAITING and every other OFF, no hit, no stroke history,
empty lanes with the RESPONSE alone, no forced bit, and RESET sticky. The changed bits are RESET's and those of every class
that fell: live before and not after, or OVERFLOW for the report of an open cycle that finds only the held entry free, which
is counted and fires OVERFLOW's action when it rises unmasked (R122, R145). The horizon becomes the present tick when a cycle
was open (R41). Each channel with a frame in the sample lane has drop owed set, gap owed is kept and takes the marks of the
pre-trigger queue, and the report lost mark is set by a CYCLE frame in the control lane or the abandoned cycle's report
(R140, R151). The pending holds of an open cycle move into the hold reason set, which restarts the hold timer; else the hold
timer, and always the reject timer, stand as they were (R128, R129, R132, R137). The row is the arrival of the request,
executed at once in a Ready state (notes/assumptions/2.md). Which classes count as fallen is read as notes/assumptions/15.md
says. -/
def Obligations.RestartResets : Prop :=
  ∀ (tag : Tag) (s : State), Ready s →
    let lost : Bool := s.cycle.isSome && s.controlLane.length == 15
    let overflow := s.classes[clsOverflow]
    let fires (a : ActionCode) : Prop :=
      lost = true ∧ overflow.live = false ∧ overflow.masked = false ∧ overflow.action = a
    let holds : Prop := fires .holdNow ∨ fires .holdAtEnd
    ∃ t : State,
      exec (.restart tag) s = .next (answered tag 17 .ok [] t) ∧ t.run = .stopped ∧ t.cycle = none ∧ t.hits = [] ∧
        t.strokes = [] ∧ t.lastStroke = none ∧ t.controlLane = [] ∧ t.sampleLane = [] ∧ t.paused = false ∧ t.tx = s.tx ∧
        t.tick = s.tick ∧ t.cfg = s.cfg ∧ t.requests = [] ∧ t.headBound = s.headBound ∧ t.headTx = s.headTx ∧
        (∀ k, (t.slot k).profile = (s.slot k).profile ∧ (t.slot k).inUse = false) ∧
        (∀ c,
          (t.chan c).intake = (if s.enabled c then .waiting else .off) ∧ (t.chan c).expected = none ∧
            (t.chan c).lastStamp = (s.chan c).lastStamp ∧ (t.chan c).lossFrom = none ∧ (t.chan c).floor = 0 ∧
            (t.chan c).floorSum = 0 ∧ (t.chan c).floorCount = 0 ∧ (t.chan c).det = .blocked ∧
            (t.chan c).openHit = none ∧ (t.chan c).deadTime = none ∧ (t.chan c).sigma = none ∧
            (t.chan c).preQueue = [] ∧ (t.chan c).postRemaining = 0 ∧ (t.chan c).policy = (s.chan c).policy ∧
            (t.chan c).pre = (s.chan c).pre ∧ (t.chan c).post = (s.chan c).post ∧
            (t.chan c).floorTrack = (s.chan c).floorTrack ∧ (t.chan c).cnt = (s.chan c).cnt) ∧
        (∀ k : ClassIx,
          t.classes[k].forced = false ∧ t.classes[k].masked = s.classes[k].masked ∧
            t.classes[k].action = s.classes[k].action ∧
            t.classes[k].cond = (k == clsLinkErr && decide (s.cfg.linkErrLimit ≤ s.cnt.headLinkCrc)) ∧
            (s.classes[k].sticky = true → t.classes[k].sticky = true)) ∧
        t.classes[clsReset].sticky = true ∧ t.news.changed.getLsbD 7 = true ∧ t.news.zoneAlerts = 0 ∧
        (∀ k : ClassIx,
          t.news.changed.getLsbD k.val =
            (k == clsReset || s.classes[k].live && !t.classes[k].live ||
              k == clsOverflow && s.cycle.isSome && s.controlLane.length == 15)) ∧
        t.news.lastZone = none ∧ t.newsSince = t.news ∧ t.rePend = false ∧
        t.alert = (match s.tx with | some (.alert _) => .sending | _ => .idle) ∧
        (∀ n, n ∈ s.holdSet ∨ n ∈ s.pendingHold → s.cycle = none ∨ n ∈ t.holdSet) ∧
        (s.cycle = none → t.horizon = s.horizon ∧ t.holdSet = s.holdSet ∧ t.cnt = s.cnt) ∧
        (s.cycle ≠ none → t.horizon = some s.tick) ∧
        (∀ c,
          (t.chan c).dropOwed = ((s.chan c).dropOwed || s.sampleLane.any fun f => f.chan == c) ∧
            (t.chan c).gapOwed = ((s.chan c).gapOwed || (s.chan c).preQueue.any (·.gapBefore))) ∧
        t.reportLost =
          (s.reportLost || s.cycle.isSome || s.controlLane.any fun f => match f with | .cycle _ => true | _ => false) ∧
        t.cnt =
          (if lost then { s.cnt with reportsLost := min 65535 (s.cnt.reportsLost + 1) } else s.cnt) ∧
        (∀ k : ClassIx,
          t.classes[k].sticky =
            (s.classes[k].sticky || k == clsReset || k == clsOverflow && lost && !overflow.live)) ∧
        (s.cycle = none → t.pendingHold = s.pendingHold ∧ t.holdExpiry = s.holdExpiry) ∧
        (s.cycle ≠ none →
          t.pendingHold = [] ∧ (∀ n, n ∈ t.holdSet ↔ n ∈ s.holdSet ∨ n ∈ s.pendingHold ∨ holds ∧ n = 134) ∧
            (s.pendingHold = [] ∧ ¬holds ∨ s.cfg.holdMs = 0 → t.holdExpiry = s.holdExpiry) ∧
            ((s.pendingHold ≠ [] ∨ holds) → s.cfg.holdMs ≠ 0 →
              t.holdExpiry = some (s.tick + BitVec.ofNat 32 (50 * s.cfg.holdMs)))) ∧
        (¬fires .reject → t.rejectExpiry = s.rejectExpiry) ∧
        (fires .reject → t.rejectExpiry = some (s.tick + BitVec.ofNat 32 (50 * s.cfg.rejectMs)))
end

