-- ==== Sys2Proof/Laws/State.lean ====
section
/-! SUPPORT. One lemma for each field and each named update of the state, so that no later proof unfolds a record update. -/

namespace Sys2Proof.Machine

variable (s : State)

/-! ### State.updChan -/

@[simp] theorem State.updChan_pending (c : Chan) (f : Channel → Channel) : (s.updChan c f).pending = s.pending := rfl
@[simp] theorem State.updChan_nrstLow (c : Chan) (f : Channel → Channel) : (s.updChan c f).nrstLow = s.nrstLow := rfl
@[simp] theorem State.updChan_tick (c : Chan) (f : Channel → Channel) : (s.updChan c f).tick = s.tick := rfl
@[simp] theorem State.updChan_strokes (c : Chan) (f : Channel → Channel) : (s.updChan c f).strokes = s.strokes := rfl
@[simp] theorem State.updChan_lastStroke (c : Chan) (f : Channel → Channel) : (s.updChan c f).lastStroke = s.lastStroke := rfl
@[simp] theorem State.updChan_run (c : Chan) (f : Channel → Channel) : (s.updChan c f).run = s.run := rfl
@[simp] theorem State.updChan_cycle (c : Chan) (f : Channel → Channel) : (s.updChan c f).cycle = s.cycle := rfl
@[simp] theorem State.updChan_horizon (c : Chan) (f : Channel → Channel) : (s.updChan c f).horizon = s.horizon := rfl
@[simp] theorem State.updChan_slots (c : Chan) (f : Channel → Channel) : (s.updChan c f).slots = s.slots := rfl
@[simp] theorem State.updChan_chans (c : Chan) (f : Channel → Channel) :
    (s.updChan c f).chans = s.chans.set c (f s.chans[c]) := rfl
@[simp] theorem State.updChan_hits (c : Chan) (f : Channel → Channel) : (s.updChan c f).hits = s.hits := rfl
@[simp] theorem State.updChan_classes (c : Chan) (f : Channel → Channel) : (s.updChan c f).classes = s.classes := rfl
@[simp] theorem State.updChan_holdSet (c : Chan) (f : Channel → Channel) : (s.updChan c f).holdSet = s.holdSet := rfl
@[simp] theorem State.updChan_pendingHold (c : Chan) (f : Channel → Channel) : (s.updChan c f).pendingHold = s.pendingHold := rfl
@[simp] theorem State.updChan_holdExpiry (c : Chan) (f : Channel → Channel) : (s.updChan c f).holdExpiry = s.holdExpiry := rfl
@[simp] theorem State.updChan_rejectExpiry (c : Chan) (f : Channel → Channel) : (s.updChan c f).rejectExpiry = s.rejectExpiry := rfl
@[simp] theorem State.updChan_alert (c : Chan) (f : Channel → Channel) : (s.updChan c f).alert = s.alert := rfl
@[simp] theorem State.updChan_rePend (c : Chan) (f : Channel → Channel) : (s.updChan c f).rePend = s.rePend := rfl
@[simp] theorem State.updChan_news (c : Chan) (f : Channel → Channel) : (s.updChan c f).news = s.news := rfl
@[simp] theorem State.updChan_newsSince (c : Chan) (f : Channel → Channel) : (s.updChan c f).newsSince = s.newsSince := rfl
@[simp] theorem State.updChan_controlLane (c : Chan) (f : Channel → Channel) : (s.updChan c f).controlLane = s.controlLane := rfl
@[simp] theorem State.updChan_held (c : Chan) (f : Channel → Channel) : (s.updChan c f).held = s.held := rfl
@[simp] theorem State.updChan_sampleLane (c : Chan) (f : Channel → Channel) : (s.updChan c f).sampleLane = s.sampleLane := rfl
@[simp] theorem State.updChan_reportLost (c : Chan) (f : Channel → Channel) : (s.updChan c f).reportLost = s.reportLost := rfl
@[simp] theorem State.updChan_paused (c : Chan) (f : Channel → Channel) : (s.updChan c f).paused = s.paused := rfl
@[simp] theorem State.updChan_tx (c : Chan) (f : Channel → Channel) : (s.updChan c f).tx = s.tx := rfl
@[simp] theorem State.updChan_deferred (c : Chan) (f : Channel → Channel) : (s.updChan c f).deferred = s.deferred := rfl
@[simp] theorem State.updChan_requests (c : Chan) (f : Channel → Channel) : (s.updChan c f).requests = s.requests := rfl
@[simp] theorem State.updChan_headBound (c : Chan) (f : Channel → Channel) : (s.updChan c f).headBound = s.headBound := rfl
@[simp] theorem State.updChan_headTx (c : Chan) (f : Channel → Channel) : (s.updChan c f).headTx = s.headTx := rfl
@[simp] theorem State.updChan_cfg (c : Chan) (f : Channel → Channel) : (s.updChan c f).cfg = s.cfg := rfl
@[simp] theorem State.updChan_cnt (c : Chan) (f : Channel → Channel) : (s.updChan c f).cnt = s.cnt := rfl

/-! ### State.updSlot -/

@[simp] theorem State.updSlot_pending (k : SlotIx) (f : Slot → Slot) : (s.updSlot k f).pending = s.pending := rfl
@[simp] theorem State.updSlot_nrstLow (k : SlotIx) (f : Slot → Slot) : (s.updSlot k f).nrstLow = s.nrstLow := rfl
@[simp] theorem State.updSlot_tick (k : SlotIx) (f : Slot → Slot) : (s.updSlot k f).tick = s.tick := rfl
@[simp] theorem State.updSlot_strokes (k : SlotIx) (f : Slot → Slot) : (s.updSlot k f).strokes = s.strokes := rfl
@[simp] theorem State.updSlot_lastStroke (k : SlotIx) (f : Slot → Slot) : (s.updSlot k f).lastStroke = s.lastStroke := rfl
@[simp] theorem State.updSlot_run (k : SlotIx) (f : Slot → Slot) : (s.updSlot k f).run = s.run := rfl
@[simp] theorem State.updSlot_cycle (k : SlotIx) (f : Slot → Slot) : (s.updSlot k f).cycle = s.cycle := rfl
@[simp] theorem State.updSlot_horizon (k : SlotIx) (f : Slot → Slot) : (s.updSlot k f).horizon = s.horizon := rfl
@[simp] theorem State.updSlot_slots (k : SlotIx) (f : Slot → Slot) :
    (s.updSlot k f).slots = s.slots.set k (f s.slots[k]) := rfl
@[simp] theorem State.updSlot_chans (k : SlotIx) (f : Slot → Slot) : (s.updSlot k f).chans = s.chans := rfl
@[simp] theorem State.updSlot_hits (k : SlotIx) (f : Slot → Slot) : (s.updSlot k f).hits = s.hits := rfl
@[simp] theorem State.updSlot_classes (k : SlotIx) (f : Slot → Slot) : (s.updSlot k f).classes = s.classes := rfl
@[simp] theorem State.updSlot_holdSet (k : SlotIx) (f : Slot → Slot) : (s.updSlot k f).holdSet = s.holdSet := rfl
@[simp] theorem State.updSlot_pendingHold (k : SlotIx) (f : Slot → Slot) : (s.updSlot k f).pendingHold = s.pendingHold := rfl
@[simp] theorem State.updSlot_holdExpiry (k : SlotIx) (f : Slot → Slot) : (s.updSlot k f).holdExpiry = s.holdExpiry := rfl
@[simp] theorem State.updSlot_rejectExpiry (k : SlotIx) (f : Slot → Slot) : (s.updSlot k f).rejectExpiry = s.rejectExpiry := rfl
@[simp] theorem State.updSlot_alert (k : SlotIx) (f : Slot → Slot) : (s.updSlot k f).alert = s.alert := rfl
@[simp] theorem State.updSlot_rePend (k : SlotIx) (f : Slot → Slot) : (s.updSlot k f).rePend = s.rePend := rfl
@[simp] theorem State.updSlot_news (k : SlotIx) (f : Slot → Slot) : (s.updSlot k f).news = s.news := rfl
@[simp] theorem State.updSlot_newsSince (k : SlotIx) (f : Slot → Slot) : (s.updSlot k f).newsSince = s.newsSince := rfl
@[simp] theorem State.updSlot_controlLane (k : SlotIx) (f : Slot → Slot) : (s.updSlot k f).controlLane = s.controlLane := rfl
@[simp] theorem State.updSlot_held (k : SlotIx) (f : Slot → Slot) : (s.updSlot k f).held = s.held := rfl
@[simp] theorem State.updSlot_sampleLane (k : SlotIx) (f : Slot → Slot) : (s.updSlot k f).sampleLane = s.sampleLane := rfl
@[simp] theorem State.updSlot_reportLost (k : SlotIx) (f : Slot → Slot) : (s.updSlot k f).reportLost = s.reportLost := rfl
@[simp] theorem State.updSlot_paused (k : SlotIx) (f : Slot → Slot) : (s.updSlot k f).paused = s.paused := rfl
@[simp] theorem State.updSlot_tx (k : SlotIx) (f : Slot → Slot) : (s.updSlot k f).tx = s.tx := rfl
@[simp] theorem State.updSlot_deferred (k : SlotIx) (f : Slot → Slot) : (s.updSlot k f).deferred = s.deferred := rfl
@[simp] theorem State.updSlot_requests (k : SlotIx) (f : Slot → Slot) : (s.updSlot k f).requests = s.requests := rfl
@[simp] theorem State.updSlot_headBound (k : SlotIx) (f : Slot → Slot) : (s.updSlot k f).headBound = s.headBound := rfl
@[simp] theorem State.updSlot_headTx (k : SlotIx) (f : Slot → Slot) : (s.updSlot k f).headTx = s.headTx := rfl
@[simp] theorem State.updSlot_cfg (k : SlotIx) (f : Slot → Slot) : (s.updSlot k f).cfg = s.cfg := rfl
@[simp] theorem State.updSlot_cnt (k : SlotIx) (f : Slot → Slot) : (s.updSlot k f).cnt = s.cnt := rfl

/-! ### State.markSlot -/

@[simp] theorem State.markSlot_pending (k : SlotIx) (b : Bool) : (s.markSlot k b).pending = s.pending := rfl
@[simp] theorem State.markSlot_nrstLow (k : SlotIx) (b : Bool) : (s.markSlot k b).nrstLow = s.nrstLow := rfl
@[simp] theorem State.markSlot_tick (k : SlotIx) (b : Bool) : (s.markSlot k b).tick = s.tick := rfl
@[simp] theorem State.markSlot_strokes (k : SlotIx) (b : Bool) : (s.markSlot k b).strokes = s.strokes := rfl
@[simp] theorem State.markSlot_lastStroke (k : SlotIx) (b : Bool) : (s.markSlot k b).lastStroke = s.lastStroke := rfl
@[simp] theorem State.markSlot_run (k : SlotIx) (b : Bool) : (s.markSlot k b).run = s.run := rfl
@[simp] theorem State.markSlot_cycle (k : SlotIx) (b : Bool) : (s.markSlot k b).cycle = s.cycle := rfl
@[simp] theorem State.markSlot_horizon (k : SlotIx) (b : Bool) : (s.markSlot k b).horizon = s.horizon := rfl
@[simp] theorem State.markSlot_slots (k : SlotIx) (b : Bool) :
    (s.markSlot k b).slots = s.slots.set k { s.slots[k] with inUse := b } := rfl
@[simp] theorem State.markSlot_chans (k : SlotIx) (b : Bool) : (s.markSlot k b).chans = s.chans := rfl
@[simp] theorem State.markSlot_hits (k : SlotIx) (b : Bool) : (s.markSlot k b).hits = s.hits := rfl
@[simp] theorem State.markSlot_classes (k : SlotIx) (b : Bool) : (s.markSlot k b).classes = s.classes := rfl
@[simp] theorem State.markSlot_holdSet (k : SlotIx) (b : Bool) : (s.markSlot k b).holdSet = s.holdSet := rfl
@[simp] theorem State.markSlot_pendingHold (k : SlotIx) (b : Bool) : (s.markSlot k b).pendingHold = s.pendingHold := rfl
@[simp] theorem State.markSlot_holdExpiry (k : SlotIx) (b : Bool) : (s.markSlot k b).holdExpiry = s.holdExpiry := rfl
@[simp] theorem State.markSlot_rejectExpiry (k : SlotIx) (b : Bool) : (s.markSlot k b).rejectExpiry = s.rejectExpiry := rfl
@[simp] theorem State.markSlot_alert (k : SlotIx) (b : Bool) : (s.markSlot k b).alert = s.alert := rfl
@[simp] theorem State.markSlot_rePend (k : SlotIx) (b : Bool) : (s.markSlot k b).rePend = s.rePend := rfl
@[simp] theorem State.markSlot_news (k : SlotIx) (b : Bool) : (s.markSlot k b).news = s.news := rfl
@[simp] theorem State.markSlot_newsSince (k : SlotIx) (b : Bool) : (s.markSlot k b).newsSince = s.newsSince := rfl
@[simp] theorem State.markSlot_controlLane (k : SlotIx) (b : Bool) : (s.markSlot k b).controlLane = s.controlLane := rfl
@[simp] theorem State.markSlot_held (k : SlotIx) (b : Bool) : (s.markSlot k b).held = s.held := rfl
@[simp] theorem State.markSlot_sampleLane (k : SlotIx) (b : Bool) : (s.markSlot k b).sampleLane = s.sampleLane := rfl
@[simp] theorem State.markSlot_reportLost (k : SlotIx) (b : Bool) : (s.markSlot k b).reportLost = s.reportLost := rfl
@[simp] theorem State.markSlot_paused (k : SlotIx) (b : Bool) : (s.markSlot k b).paused = s.paused := rfl
@[simp] theorem State.markSlot_tx (k : SlotIx) (b : Bool) : (s.markSlot k b).tx = s.tx := rfl
@[simp] theorem State.markSlot_deferred (k : SlotIx) (b : Bool) : (s.markSlot k b).deferred = s.deferred := rfl
@[simp] theorem State.markSlot_requests (k : SlotIx) (b : Bool) : (s.markSlot k b).requests = s.requests := rfl
@[simp] theorem State.markSlot_headBound (k : SlotIx) (b : Bool) : (s.markSlot k b).headBound = s.headBound := rfl
@[simp] theorem State.markSlot_headTx (k : SlotIx) (b : Bool) : (s.markSlot k b).headTx = s.headTx := rfl
@[simp] theorem State.markSlot_cfg (k : SlotIx) (b : Bool) : (s.markSlot k b).cfg = s.cfg := rfl
@[simp] theorem State.markSlot_cnt (k : SlotIx) (b : Bool) : (s.markSlot k b).cnt = s.cnt := rfl

/-! ### State.updProfile -/

@[simp] theorem State.updProfile_pending (k : SlotIx) (f : Profile → Profile) : (s.updProfile k f).pending = s.pending := rfl
@[simp] theorem State.updProfile_nrstLow (k : SlotIx) (f : Profile → Profile) : (s.updProfile k f).nrstLow = s.nrstLow := rfl
@[simp] theorem State.updProfile_tick (k : SlotIx) (f : Profile → Profile) : (s.updProfile k f).tick = s.tick := rfl
@[simp] theorem State.updProfile_strokes (k : SlotIx) (f : Profile → Profile) : (s.updProfile k f).strokes = s.strokes := rfl
@[simp] theorem State.updProfile_lastStroke (k : SlotIx) (f : Profile → Profile) : (s.updProfile k f).lastStroke = s.lastStroke := rfl
@[simp] theorem State.updProfile_run (k : SlotIx) (f : Profile → Profile) : (s.updProfile k f).run = s.run := rfl
@[simp] theorem State.updProfile_cycle (k : SlotIx) (f : Profile → Profile) : (s.updProfile k f).cycle = s.cycle := rfl
@[simp] theorem State.updProfile_horizon (k : SlotIx) (f : Profile → Profile) : (s.updProfile k f).horizon = s.horizon := rfl
@[simp] theorem State.updProfile_slots (k : SlotIx) (f : Profile → Profile) :
    (s.updProfile k f).slots = s.slots.set k { s.slots[k] with profile := s.slots[k].profile.map f } := rfl
@[simp] theorem State.updProfile_chans (k : SlotIx) (f : Profile → Profile) : (s.updProfile k f).chans = s.chans := rfl
@[simp] theorem State.updProfile_hits (k : SlotIx) (f : Profile → Profile) : (s.updProfile k f).hits = s.hits := rfl
@[simp] theorem State.updProfile_classes (k : SlotIx) (f : Profile → Profile) : (s.updProfile k f).classes = s.classes := rfl
@[simp] theorem State.updProfile_holdSet (k : SlotIx) (f : Profile → Profile) : (s.updProfile k f).holdSet = s.holdSet := rfl
@[simp] theorem State.updProfile_pendingHold (k : SlotIx) (f : Profile → Profile) : (s.updProfile k f).pendingHold = s.pendingHold := rfl
@[simp] theorem State.updProfile_holdExpiry (k : SlotIx) (f : Profile → Profile) : (s.updProfile k f).holdExpiry = s.holdExpiry := rfl
@[simp] theorem State.updProfile_rejectExpiry (k : SlotIx) (f : Profile → Profile) : (s.updProfile k f).rejectExpiry = s.rejectExpiry := rfl
@[simp] theorem State.updProfile_alert (k : SlotIx) (f : Profile → Profile) : (s.updProfile k f).alert = s.alert := rfl
@[simp] theorem State.updProfile_rePend (k : SlotIx) (f : Profile → Profile) : (s.updProfile k f).rePend = s.rePend := rfl
@[simp] theorem State.updProfile_news (k : SlotIx) (f : Profile → Profile) : (s.updProfile k f).news = s.news := rfl
@[simp] theorem State.updProfile_newsSince (k : SlotIx) (f : Profile → Profile) : (s.updProfile k f).newsSince = s.newsSince := rfl
@[simp] theorem State.updProfile_controlLane (k : SlotIx) (f : Profile → Profile) : (s.updProfile k f).controlLane = s.controlLane := rfl
@[simp] theorem State.updProfile_held (k : SlotIx) (f : Profile → Profile) : (s.updProfile k f).held = s.held := rfl
@[simp] theorem State.updProfile_sampleLane (k : SlotIx) (f : Profile → Profile) : (s.updProfile k f).sampleLane = s.sampleLane := rfl
@[simp] theorem State.updProfile_reportLost (k : SlotIx) (f : Profile → Profile) : (s.updProfile k f).reportLost = s.reportLost := rfl
@[simp] theorem State.updProfile_paused (k : SlotIx) (f : Profile → Profile) : (s.updProfile k f).paused = s.paused := rfl
@[simp] theorem State.updProfile_tx (k : SlotIx) (f : Profile → Profile) : (s.updProfile k f).tx = s.tx := rfl
@[simp] theorem State.updProfile_deferred (k : SlotIx) (f : Profile → Profile) : (s.updProfile k f).deferred = s.deferred := rfl
@[simp] theorem State.updProfile_requests (k : SlotIx) (f : Profile → Profile) : (s.updProfile k f).requests = s.requests := rfl
@[simp] theorem State.updProfile_headBound (k : SlotIx) (f : Profile → Profile) : (s.updProfile k f).headBound = s.headBound := rfl
@[simp] theorem State.updProfile_headTx (k : SlotIx) (f : Profile → Profile) : (s.updProfile k f).headTx = s.headTx := rfl
@[simp] theorem State.updProfile_cfg (k : SlotIx) (f : Profile → Profile) : (s.updProfile k f).cfg = s.cfg := rfl
@[simp] theorem State.updProfile_cnt (k : SlotIx) (f : Profile → Profile) : (s.updProfile k f).cnt = s.cnt := rfl

/-! ### State.setZone -/

@[simp] theorem State.setZone_pending (k : SlotIx) (z : ZoneIx) (r : Option Zone) : (s.setZone k z r).pending = s.pending := rfl
@[simp] theorem State.setZone_nrstLow (k : SlotIx) (z : ZoneIx) (r : Option Zone) : (s.setZone k z r).nrstLow = s.nrstLow := rfl
@[simp] theorem State.setZone_tick (k : SlotIx) (z : ZoneIx) (r : Option Zone) : (s.setZone k z r).tick = s.tick := rfl
@[simp] theorem State.setZone_strokes (k : SlotIx) (z : ZoneIx) (r : Option Zone) : (s.setZone k z r).strokes = s.strokes := rfl
@[simp] theorem State.setZone_lastStroke (k : SlotIx) (z : ZoneIx) (r : Option Zone) : (s.setZone k z r).lastStroke = s.lastStroke := rfl
@[simp] theorem State.setZone_run (k : SlotIx) (z : ZoneIx) (r : Option Zone) : (s.setZone k z r).run = s.run := rfl
@[simp] theorem State.setZone_cycle (k : SlotIx) (z : ZoneIx) (r : Option Zone) : (s.setZone k z r).cycle = s.cycle := rfl
@[simp] theorem State.setZone_horizon (k : SlotIx) (z : ZoneIx) (r : Option Zone) : (s.setZone k z r).horizon = s.horizon := rfl
@[simp] theorem State.setZone_chans (k : SlotIx) (z : ZoneIx) (r : Option Zone) : (s.setZone k z r).chans = s.chans := rfl
@[simp] theorem State.setZone_hits (k : SlotIx) (z : ZoneIx) (r : Option Zone) : (s.setZone k z r).hits = s.hits := rfl
@[simp] theorem State.setZone_classes (k : SlotIx) (z : ZoneIx) (r : Option Zone) : (s.setZone k z r).classes = s.classes := rfl
@[simp] theorem State.setZone_holdSet (k : SlotIx) (z : ZoneIx) (r : Option Zone) : (s.setZone k z r).holdSet = s.holdSet := rfl
@[simp] theorem State.setZone_pendingHold (k : SlotIx) (z : ZoneIx) (r : Option Zone) : (s.setZone k z r).pendingHold = s.pendingHold := rfl
@[simp] theorem State.setZone_holdExpiry (k : SlotIx) (z : ZoneIx) (r : Option Zone) : (s.setZone k z r).holdExpiry = s.holdExpiry := rfl
@[simp] theorem State.setZone_rejectExpiry (k : SlotIx) (z : ZoneIx) (r : Option Zone) : (s.setZone k z r).rejectExpiry = s.rejectExpiry := rfl
@[simp] theorem State.setZone_alert (k : SlotIx) (z : ZoneIx) (r : Option Zone) : (s.setZone k z r).alert = s.alert := rfl
@[simp] theorem State.setZone_rePend (k : SlotIx) (z : ZoneIx) (r : Option Zone) : (s.setZone k z r).rePend = s.rePend := rfl
@[simp] theorem State.setZone_news (k : SlotIx) (z : ZoneIx) (r : Option Zone) : (s.setZone k z r).news = s.news := rfl
@[simp] theorem State.setZone_newsSince (k : SlotIx) (z : ZoneIx) (r : Option Zone) : (s.setZone k z r).newsSince = s.newsSince := rfl
@[simp] theorem State.setZone_controlLane (k : SlotIx) (z : ZoneIx) (r : Option Zone) : (s.setZone k z r).controlLane = s.controlLane := rfl
@[simp] theorem State.setZone_held (k : SlotIx) (z : ZoneIx) (r : Option Zone) : (s.setZone k z r).held = s.held := rfl
@[simp] theorem State.setZone_sampleLane (k : SlotIx) (z : ZoneIx) (r : Option Zone) : (s.setZone k z r).sampleLane = s.sampleLane := rfl
@[simp] theorem State.setZone_reportLost (k : SlotIx) (z : ZoneIx) (r : Option Zone) : (s.setZone k z r).reportLost = s.reportLost := rfl
@[simp] theorem State.setZone_paused (k : SlotIx) (z : ZoneIx) (r : Option Zone) : (s.setZone k z r).paused = s.paused := rfl
@[simp] theorem State.setZone_tx (k : SlotIx) (z : ZoneIx) (r : Option Zone) : (s.setZone k z r).tx = s.tx := rfl
@[simp] theorem State.setZone_deferred (k : SlotIx) (z : ZoneIx) (r : Option Zone) : (s.setZone k z r).deferred = s.deferred := rfl
@[simp] theorem State.setZone_requests (k : SlotIx) (z : ZoneIx) (r : Option Zone) : (s.setZone k z r).requests = s.requests := rfl
@[simp] theorem State.setZone_headBound (k : SlotIx) (z : ZoneIx) (r : Option Zone) : (s.setZone k z r).headBound = s.headBound := rfl
@[simp] theorem State.setZone_headTx (k : SlotIx) (z : ZoneIx) (r : Option Zone) : (s.setZone k z r).headTx = s.headTx := rfl
@[simp] theorem State.setZone_cfg (k : SlotIx) (z : ZoneIx) (r : Option Zone) : (s.setZone k z r).cfg = s.cfg := rfl
@[simp] theorem State.setZone_cnt (k : SlotIx) (z : ZoneIx) (r : Option Zone) : (s.setZone k z r).cnt = s.cnt := rfl

/-! ### State.updCycle -/

@[simp] theorem State.updCycle_pending (f : Cycle → Cycle) : (s.updCycle f).pending = s.pending := rfl
@[simp] theorem State.updCycle_nrstLow (f : Cycle → Cycle) : (s.updCycle f).nrstLow = s.nrstLow := rfl
@[simp] theorem State.updCycle_tick (f : Cycle → Cycle) : (s.updCycle f).tick = s.tick := rfl
@[simp] theorem State.updCycle_strokes (f : Cycle → Cycle) : (s.updCycle f).strokes = s.strokes := rfl
@[simp] theorem State.updCycle_lastStroke (f : Cycle → Cycle) : (s.updCycle f).lastStroke = s.lastStroke := rfl
@[simp] theorem State.updCycle_run (f : Cycle → Cycle) : (s.updCycle f).run = s.run := rfl
@[simp] theorem State.updCycle_cycle (f : Cycle → Cycle) : (s.updCycle f).cycle = s.cycle.map f := rfl
@[simp] theorem State.updCycle_horizon (f : Cycle → Cycle) : (s.updCycle f).horizon = s.horizon := rfl
@[simp] theorem State.updCycle_slots (f : Cycle → Cycle) : (s.updCycle f).slots = s.slots := rfl
@[simp] theorem State.updCycle_chans (f : Cycle → Cycle) : (s.updCycle f).chans = s.chans := rfl
@[simp] theorem State.updCycle_hits (f : Cycle → Cycle) : (s.updCycle f).hits = s.hits := rfl
@[simp] theorem State.updCycle_classes (f : Cycle → Cycle) : (s.updCycle f).classes = s.classes := rfl
@[simp] theorem State.updCycle_holdSet (f : Cycle → Cycle) : (s.updCycle f).holdSet = s.holdSet := rfl
@[simp] theorem State.updCycle_pendingHold (f : Cycle → Cycle) : (s.updCycle f).pendingHold = s.pendingHold := rfl
@[simp] theorem State.updCycle_holdExpiry (f : Cycle → Cycle) : (s.updCycle f).holdExpiry = s.holdExpiry := rfl
@[simp] theorem State.updCycle_rejectExpiry (f : Cycle → Cycle) : (s.updCycle f).rejectExpiry = s.rejectExpiry := rfl
@[simp] theorem State.updCycle_alert (f : Cycle → Cycle) : (s.updCycle f).alert = s.alert := rfl
@[simp] theorem State.updCycle_rePend (f : Cycle → Cycle) : (s.updCycle f).rePend = s.rePend := rfl
@[simp] theorem State.updCycle_news (f : Cycle → Cycle) : (s.updCycle f).news = s.news := rfl
@[simp] theorem State.updCycle_newsSince (f : Cycle → Cycle) : (s.updCycle f).newsSince = s.newsSince := rfl
@[simp] theorem State.updCycle_controlLane (f : Cycle → Cycle) : (s.updCycle f).controlLane = s.controlLane := rfl
@[simp] theorem State.updCycle_held (f : Cycle → Cycle) : (s.updCycle f).held = s.held := rfl
@[simp] theorem State.updCycle_sampleLane (f : Cycle → Cycle) : (s.updCycle f).sampleLane = s.sampleLane := rfl
@[simp] theorem State.updCycle_reportLost (f : Cycle → Cycle) : (s.updCycle f).reportLost = s.reportLost := rfl
@[simp] theorem State.updCycle_paused (f : Cycle → Cycle) : (s.updCycle f).paused = s.paused := rfl
@[simp] theorem State.updCycle_tx (f : Cycle → Cycle) : (s.updCycle f).tx = s.tx := rfl
@[simp] theorem State.updCycle_deferred (f : Cycle → Cycle) : (s.updCycle f).deferred = s.deferred := rfl
@[simp] theorem State.updCycle_requests (f : Cycle → Cycle) : (s.updCycle f).requests = s.requests := rfl
@[simp] theorem State.updCycle_headBound (f : Cycle → Cycle) : (s.updCycle f).headBound = s.headBound := rfl
@[simp] theorem State.updCycle_headTx (f : Cycle → Cycle) : (s.updCycle f).headTx = s.headTx := rfl
@[simp] theorem State.updCycle_cfg (f : Cycle → Cycle) : (s.updCycle f).cfg = s.cfg := rfl
@[simp] theorem State.updCycle_cnt (f : Cycle → Cycle) : (s.updCycle f).cnt = s.cnt := rfl

/-! ### State.updFlags -/

@[simp] theorem State.updFlags_pending (f : CycleFlags → CycleFlags) : (s.updFlags f).pending = s.pending := rfl
@[simp] theorem State.updFlags_nrstLow (f : CycleFlags → CycleFlags) : (s.updFlags f).nrstLow = s.nrstLow := rfl
@[simp] theorem State.updFlags_tick (f : CycleFlags → CycleFlags) : (s.updFlags f).tick = s.tick := rfl
@[simp] theorem State.updFlags_strokes (f : CycleFlags → CycleFlags) : (s.updFlags f).strokes = s.strokes := rfl
@[simp] theorem State.updFlags_lastStroke (f : CycleFlags → CycleFlags) : (s.updFlags f).lastStroke = s.lastStroke := rfl
@[simp] theorem State.updFlags_run (f : CycleFlags → CycleFlags) : (s.updFlags f).run = s.run := rfl
@[simp] theorem State.updFlags_cycle (f : CycleFlags → CycleFlags) :
    (s.updFlags f).cycle = s.cycle.map fun cy => { cy with flags := f cy.flags } := rfl
@[simp] theorem State.updFlags_horizon (f : CycleFlags → CycleFlags) : (s.updFlags f).horizon = s.horizon := rfl
@[simp] theorem State.updFlags_slots (f : CycleFlags → CycleFlags) : (s.updFlags f).slots = s.slots := rfl
@[simp] theorem State.updFlags_chans (f : CycleFlags → CycleFlags) : (s.updFlags f).chans = s.chans := rfl
@[simp] theorem State.updFlags_hits (f : CycleFlags → CycleFlags) : (s.updFlags f).hits = s.hits := rfl
@[simp] theorem State.updFlags_classes (f : CycleFlags → CycleFlags) : (s.updFlags f).classes = s.classes := rfl
@[simp] theorem State.updFlags_holdSet (f : CycleFlags → CycleFlags) : (s.updFlags f).holdSet = s.holdSet := rfl
@[simp] theorem State.updFlags_pendingHold (f : CycleFlags → CycleFlags) : (s.updFlags f).pendingHold = s.pendingHold := rfl
@[simp] theorem State.updFlags_holdExpiry (f : CycleFlags → CycleFlags) : (s.updFlags f).holdExpiry = s.holdExpiry := rfl
@[simp] theorem State.updFlags_rejectExpiry (f : CycleFlags → CycleFlags) : (s.updFlags f).rejectExpiry = s.rejectExpiry := rfl
@[simp] theorem State.updFlags_alert (f : CycleFlags → CycleFlags) : (s.updFlags f).alert = s.alert := rfl
@[simp] theorem State.updFlags_rePend (f : CycleFlags → CycleFlags) : (s.updFlags f).rePend = s.rePend := rfl
@[simp] theorem State.updFlags_news (f : CycleFlags → CycleFlags) : (s.updFlags f).news = s.news := rfl
@[simp] theorem State.updFlags_newsSince (f : CycleFlags → CycleFlags) : (s.updFlags f).newsSince = s.newsSince := rfl
@[simp] theorem State.updFlags_controlLane (f : CycleFlags → CycleFlags) : (s.updFlags f).controlLane = s.controlLane := rfl
@[simp] theorem State.updFlags_held (f : CycleFlags → CycleFlags) : (s.updFlags f).held = s.held := rfl
@[simp] theorem State.updFlags_sampleLane (f : CycleFlags → CycleFlags) : (s.updFlags f).sampleLane = s.sampleLane := rfl
@[simp] theorem State.updFlags_reportLost (f : CycleFlags → CycleFlags) : (s.updFlags f).reportLost = s.reportLost := rfl
@[simp] theorem State.updFlags_paused (f : CycleFlags → CycleFlags) : (s.updFlags f).paused = s.paused := rfl
@[simp] theorem State.updFlags_tx (f : CycleFlags → CycleFlags) : (s.updFlags f).tx = s.tx := rfl
@[simp] theorem State.updFlags_deferred (f : CycleFlags → CycleFlags) : (s.updFlags f).deferred = s.deferred := rfl
@[simp] theorem State.updFlags_requests (f : CycleFlags → CycleFlags) : (s.updFlags f).requests = s.requests := rfl
@[simp] theorem State.updFlags_headBound (f : CycleFlags → CycleFlags) : (s.updFlags f).headBound = s.headBound := rfl
@[simp] theorem State.updFlags_headTx (f : CycleFlags → CycleFlags) : (s.updFlags f).headTx = s.headTx := rfl
@[simp] theorem State.updFlags_cfg (f : CycleFlags → CycleFlags) : (s.updFlags f).cfg = s.cfg := rfl
@[simp] theorem State.updFlags_cnt (f : CycleFlags → CycleFlags) : (s.updFlags f).cnt = s.cnt := rfl

/-! ### State.updCounts -/

@[simp] theorem State.updCounts_pending (f : CycleCounts → CycleCounts) : (s.updCounts f).pending = s.pending := rfl
@[simp] theorem State.updCounts_nrstLow (f : CycleCounts → CycleCounts) : (s.updCounts f).nrstLow = s.nrstLow := rfl
@[simp] theorem State.updCounts_tick (f : CycleCounts → CycleCounts) : (s.updCounts f).tick = s.tick := rfl
@[simp] theorem State.updCounts_strokes (f : CycleCounts → CycleCounts) : (s.updCounts f).strokes = s.strokes := rfl
@[simp] theorem State.updCounts_lastStroke (f : CycleCounts → CycleCounts) : (s.updCounts f).lastStroke = s.lastStroke := rfl
@[simp] theorem State.updCounts_run (f : CycleCounts → CycleCounts) : (s.updCounts f).run = s.run := rfl
@[simp] theorem State.updCounts_cycle (f : CycleCounts → CycleCounts) :
    (s.updCounts f).cycle = s.cycle.map fun cy => { cy with counts := f cy.counts } := rfl
@[simp] theorem State.updCounts_horizon (f : CycleCounts → CycleCounts) : (s.updCounts f).horizon = s.horizon := rfl
@[simp] theorem State.updCounts_slots (f : CycleCounts → CycleCounts) : (s.updCounts f).slots = s.slots := rfl
@[simp] theorem State.updCounts_chans (f : CycleCounts → CycleCounts) : (s.updCounts f).chans = s.chans := rfl
@[simp] theorem State.updCounts_hits (f : CycleCounts → CycleCounts) : (s.updCounts f).hits = s.hits := rfl
@[simp] theorem State.updCounts_classes (f : CycleCounts → CycleCounts) : (s.updCounts f).classes = s.classes := rfl
@[simp] theorem State.updCounts_holdSet (f : CycleCounts → CycleCounts) : (s.updCounts f).holdSet = s.holdSet := rfl
@[simp] theorem State.updCounts_pendingHold (f : CycleCounts → CycleCounts) : (s.updCounts f).pendingHold = s.pendingHold := rfl
@[simp] theorem State.updCounts_holdExpiry (f : CycleCounts → CycleCounts) : (s.updCounts f).holdExpiry = s.holdExpiry := rfl
@[simp] theorem State.updCounts_rejectExpiry (f : CycleCounts → CycleCounts) : (s.updCounts f).rejectExpiry = s.rejectExpiry := rfl
@[simp] theorem State.updCounts_alert (f : CycleCounts → CycleCounts) : (s.updCounts f).alert = s.alert := rfl
@[simp] theorem State.updCounts_rePend (f : CycleCounts → CycleCounts) : (s.updCounts f).rePend = s.rePend := rfl
@[simp] theorem State.updCounts_news (f : CycleCounts → CycleCounts) : (s.updCounts f).news = s.news := rfl
@[simp] theorem State.updCounts_newsSince (f : CycleCounts → CycleCounts) : (s.updCounts f).newsSince = s.newsSince := rfl
@[simp] theorem State.updCounts_controlLane (f : CycleCounts → CycleCounts) : (s.updCounts f).controlLane = s.controlLane := rfl
@[simp] theorem State.updCounts_held (f : CycleCounts → CycleCounts) : (s.updCounts f).held = s.held := rfl
@[simp] theorem State.updCounts_sampleLane (f : CycleCounts → CycleCounts) : (s.updCounts f).sampleLane = s.sampleLane := rfl
@[simp] theorem State.updCounts_reportLost (f : CycleCounts → CycleCounts) : (s.updCounts f).reportLost = s.reportLost := rfl
@[simp] theorem State.updCounts_paused (f : CycleCounts → CycleCounts) : (s.updCounts f).paused = s.paused := rfl
@[simp] theorem State.updCounts_tx (f : CycleCounts → CycleCounts) : (s.updCounts f).tx = s.tx := rfl
@[simp] theorem State.updCounts_deferred (f : CycleCounts → CycleCounts) : (s.updCounts f).deferred = s.deferred := rfl
@[simp] theorem State.updCounts_requests (f : CycleCounts → CycleCounts) : (s.updCounts f).requests = s.requests := rfl
@[simp] theorem State.updCounts_headBound (f : CycleCounts → CycleCounts) : (s.updCounts f).headBound = s.headBound := rfl
@[simp] theorem State.updCounts_headTx (f : CycleCounts → CycleCounts) : (s.updCounts f).headTx = s.headTx := rfl
@[simp] theorem State.updCounts_cfg (f : CycleCounts → CycleCounts) : (s.updCounts f).cfg = s.cfg := rfl
@[simp] theorem State.updCounts_cnt (f : CycleCounts → CycleCounts) : (s.updCounts f).cnt = s.cnt := rfl

/-! ### State.count -/

@[simp] theorem State.count_pending (f : PartCounters → PartCounters) : (s.count f).pending = s.pending := rfl
@[simp] theorem State.count_nrstLow (f : PartCounters → PartCounters) : (s.count f).nrstLow = s.nrstLow := rfl
@[simp] theorem State.count_tick (f : PartCounters → PartCounters) : (s.count f).tick = s.tick := rfl
@[simp] theorem State.count_strokes (f : PartCounters → PartCounters) : (s.count f).strokes = s.strokes := rfl
@[simp] theorem State.count_lastStroke (f : PartCounters → PartCounters) : (s.count f).lastStroke = s.lastStroke := rfl
@[simp] theorem State.count_run (f : PartCounters → PartCounters) : (s.count f).run = s.run := rfl
@[simp] theorem State.count_cycle (f : PartCounters → PartCounters) : (s.count f).cycle = s.cycle := rfl
@[simp] theorem State.count_horizon (f : PartCounters → PartCounters) : (s.count f).horizon = s.horizon := rfl
@[simp] theorem State.count_slots (f : PartCounters → PartCounters) : (s.count f).slots = s.slots := rfl
@[simp] theorem State.count_chans (f : PartCounters → PartCounters) : (s.count f).chans = s.chans := rfl
@[simp] theorem State.count_hits (f : PartCounters → PartCounters) : (s.count f).hits = s.hits := rfl
@[simp] theorem State.count_classes (f : PartCounters → PartCounters) : (s.count f).classes = s.classes := rfl
@[simp] theorem State.count_holdSet (f : PartCounters → PartCounters) : (s.count f).holdSet = s.holdSet := rfl
@[simp] theorem State.count_pendingHold (f : PartCounters → PartCounters) : (s.count f).pendingHold = s.pendingHold := rfl
@[simp] theorem State.count_holdExpiry (f : PartCounters → PartCounters) : (s.count f).holdExpiry = s.holdExpiry := rfl
@[simp] theorem State.count_rejectExpiry (f : PartCounters → PartCounters) : (s.count f).rejectExpiry = s.rejectExpiry := rfl
@[simp] theorem State.count_alert (f : PartCounters → PartCounters) : (s.count f).alert = s.alert := rfl
@[simp] theorem State.count_rePend (f : PartCounters → PartCounters) : (s.count f).rePend = s.rePend := rfl
@[simp] theorem State.count_news (f : PartCounters → PartCounters) : (s.count f).news = s.news := rfl
@[simp] theorem State.count_newsSince (f : PartCounters → PartCounters) : (s.count f).newsSince = s.newsSince := rfl
@[simp] theorem State.count_controlLane (f : PartCounters → PartCounters) : (s.count f).controlLane = s.controlLane := rfl
@[simp] theorem State.count_held (f : PartCounters → PartCounters) : (s.count f).held = s.held := rfl
@[simp] theorem State.count_sampleLane (f : PartCounters → PartCounters) : (s.count f).sampleLane = s.sampleLane := rfl
@[simp] theorem State.count_reportLost (f : PartCounters → PartCounters) : (s.count f).reportLost = s.reportLost := rfl
@[simp] theorem State.count_paused (f : PartCounters → PartCounters) : (s.count f).paused = s.paused := rfl
@[simp] theorem State.count_tx (f : PartCounters → PartCounters) : (s.count f).tx = s.tx := rfl
@[simp] theorem State.count_deferred (f : PartCounters → PartCounters) : (s.count f).deferred = s.deferred := rfl
@[simp] theorem State.count_requests (f : PartCounters → PartCounters) : (s.count f).requests = s.requests := rfl
@[simp] theorem State.count_headBound (f : PartCounters → PartCounters) : (s.count f).headBound = s.headBound := rfl
@[simp] theorem State.count_headTx (f : PartCounters → PartCounters) : (s.count f).headTx = s.headTx := rfl
@[simp] theorem State.count_cfg (f : PartCounters → PartCounters) : (s.count f).cfg = s.cfg := rfl
@[simp] theorem State.count_cnt (f : PartCounters → PartCounters) : (s.count f).cnt = f s.cnt := rfl

/-! ### State.countChan -/

@[simp] theorem State.countChan_pending (c : Chan) (f : ChanCounters → ChanCounters) : (s.countChan c f).pending = s.pending := rfl
@[simp] theorem State.countChan_nrstLow (c : Chan) (f : ChanCounters → ChanCounters) : (s.countChan c f).nrstLow = s.nrstLow := rfl
@[simp] theorem State.countChan_tick (c : Chan) (f : ChanCounters → ChanCounters) : (s.countChan c f).tick = s.tick := rfl
@[simp] theorem State.countChan_strokes (c : Chan) (f : ChanCounters → ChanCounters) : (s.countChan c f).strokes = s.strokes := rfl
@[simp] theorem State.countChan_lastStroke (c : Chan) (f : ChanCounters → ChanCounters) : (s.countChan c f).lastStroke = s.lastStroke := rfl
@[simp] theorem State.countChan_run (c : Chan) (f : ChanCounters → ChanCounters) : (s.countChan c f).run = s.run := rfl
@[simp] theorem State.countChan_cycle (c : Chan) (f : ChanCounters → ChanCounters) : (s.countChan c f).cycle = s.cycle := rfl
@[simp] theorem State.countChan_horizon (c : Chan) (f : ChanCounters → ChanCounters) : (s.countChan c f).horizon = s.horizon := rfl
@[simp] theorem State.countChan_slots (c : Chan) (f : ChanCounters → ChanCounters) : (s.countChan c f).slots = s.slots := rfl
@[simp] theorem State.countChan_chans (c : Chan) (f : ChanCounters → ChanCounters) :
    (s.countChan c f).chans = s.chans.set c { s.chans[c] with cnt := f s.chans[c].cnt } := rfl
@[simp] theorem State.countChan_hits (c : Chan) (f : ChanCounters → ChanCounters) : (s.countChan c f).hits = s.hits := rfl
@[simp] theorem State.countChan_classes (c : Chan) (f : ChanCounters → ChanCounters) : (s.countChan c f).classes = s.classes := rfl
@[simp] theorem State.countChan_holdSet (c : Chan) (f : ChanCounters → ChanCounters) : (s.countChan c f).holdSet = s.holdSet := rfl
@[simp] theorem State.countChan_pendingHold (c : Chan) (f : ChanCounters → ChanCounters) : (s.countChan c f).pendingHold = s.pendingHold := rfl
@[simp] theorem State.countChan_holdExpiry (c : Chan) (f : ChanCounters → ChanCounters) : (s.countChan c f).holdExpiry = s.holdExpiry := rfl
@[simp] theorem State.countChan_rejectExpiry (c : Chan) (f : ChanCounters → ChanCounters) : (s.countChan c f).rejectExpiry = s.rejectExpiry := rfl
@[simp] theorem State.countChan_alert (c : Chan) (f : ChanCounters → ChanCounters) : (s.countChan c f).alert = s.alert := rfl
@[simp] theorem State.countChan_rePend (c : Chan) (f : ChanCounters → ChanCounters) : (s.countChan c f).rePend = s.rePend := rfl
@[simp] theorem State.countChan_news (c : Chan) (f : ChanCounters → ChanCounters) : (s.countChan c f).news = s.news := rfl
@[simp] theorem State.countChan_newsSince (c : Chan) (f : ChanCounters → ChanCounters) : (s.countChan c f).newsSince = s.newsSince := rfl
@[simp] theorem State.countChan_controlLane (c : Chan) (f : ChanCounters → ChanCounters) : (s.countChan c f).controlLane = s.controlLane := rfl
@[simp] theorem State.countChan_held (c : Chan) (f : ChanCounters → ChanCounters) : (s.countChan c f).held = s.held := rfl
@[simp] theorem State.countChan_sampleLane (c : Chan) (f : ChanCounters → ChanCounters) : (s.countChan c f).sampleLane = s.sampleLane := rfl
@[simp] theorem State.countChan_reportLost (c : Chan) (f : ChanCounters → ChanCounters) : (s.countChan c f).reportLost = s.reportLost := rfl
@[simp] theorem State.countChan_paused (c : Chan) (f : ChanCounters → ChanCounters) : (s.countChan c f).paused = s.paused := rfl
@[simp] theorem State.countChan_tx (c : Chan) (f : ChanCounters → ChanCounters) : (s.countChan c f).tx = s.tx := rfl
@[simp] theorem State.countChan_deferred (c : Chan) (f : ChanCounters → ChanCounters) : (s.countChan c f).deferred = s.deferred := rfl
@[simp] theorem State.countChan_requests (c : Chan) (f : ChanCounters → ChanCounters) : (s.countChan c f).requests = s.requests := rfl
@[simp] theorem State.countChan_headBound (c : Chan) (f : ChanCounters → ChanCounters) : (s.countChan c f).headBound = s.headBound := rfl
@[simp] theorem State.countChan_headTx (c : Chan) (f : ChanCounters → ChanCounters) : (s.countChan c f).headTx = s.headTx := rfl
@[simp] theorem State.countChan_cfg (c : Chan) (f : ChanCounters → ChanCounters) : (s.countChan c f).cfg = s.cfg := rfl
@[simp] theorem State.countChan_cnt (c : Chan) (f : ChanCounters → ChanCounters) : (s.countChan c f).cnt = s.cnt := rfl

/-! ### State.configure -/

@[simp] theorem State.configure_pending (f : PartConfig → PartConfig) : (s.configure f).pending = s.pending := rfl
@[simp] theorem State.configure_nrstLow (f : PartConfig → PartConfig) : (s.configure f).nrstLow = s.nrstLow := rfl
@[simp] theorem State.configure_tick (f : PartConfig → PartConfig) : (s.configure f).tick = s.tick := rfl
@[simp] theorem State.configure_strokes (f : PartConfig → PartConfig) : (s.configure f).strokes = s.strokes := rfl
@[simp] theorem State.configure_lastStroke (f : PartConfig → PartConfig) : (s.configure f).lastStroke = s.lastStroke := rfl
@[simp] theorem State.configure_run (f : PartConfig → PartConfig) : (s.configure f).run = s.run := rfl
@[simp] theorem State.configure_cycle (f : PartConfig → PartConfig) : (s.configure f).cycle = s.cycle := rfl
@[simp] theorem State.configure_horizon (f : PartConfig → PartConfig) : (s.configure f).horizon = s.horizon := rfl
@[simp] theorem State.configure_slots (f : PartConfig → PartConfig) : (s.configure f).slots = s.slots := rfl
@[simp] theorem State.configure_chans (f : PartConfig → PartConfig) : (s.configure f).chans = s.chans := rfl
@[simp] theorem State.configure_hits (f : PartConfig → PartConfig) : (s.configure f).hits = s.hits := rfl
@[simp] theorem State.configure_classes (f : PartConfig → PartConfig) : (s.configure f).classes = s.classes := rfl
@[simp] theorem State.configure_holdSet (f : PartConfig → PartConfig) : (s.configure f).holdSet = s.holdSet := rfl
@[simp] theorem State.configure_pendingHold (f : PartConfig → PartConfig) : (s.configure f).pendingHold = s.pendingHold := rfl
@[simp] theorem State.configure_holdExpiry (f : PartConfig → PartConfig) : (s.configure f).holdExpiry = s.holdExpiry := rfl
@[simp] theorem State.configure_rejectExpiry (f : PartConfig → PartConfig) : (s.configure f).rejectExpiry = s.rejectExpiry := rfl
@[simp] theorem State.configure_alert (f : PartConfig → PartConfig) : (s.configure f).alert = s.alert := rfl
@[simp] theorem State.configure_rePend (f : PartConfig → PartConfig) : (s.configure f).rePend = s.rePend := rfl
@[simp] theorem State.configure_news (f : PartConfig → PartConfig) : (s.configure f).news = s.news := rfl
@[simp] theorem State.configure_newsSince (f : PartConfig → PartConfig) : (s.configure f).newsSince = s.newsSince := rfl
@[simp] theorem State.configure_controlLane (f : PartConfig → PartConfig) : (s.configure f).controlLane = s.controlLane := rfl
@[simp] theorem State.configure_held (f : PartConfig → PartConfig) : (s.configure f).held = s.held := rfl
@[simp] theorem State.configure_sampleLane (f : PartConfig → PartConfig) : (s.configure f).sampleLane = s.sampleLane := rfl
@[simp] theorem State.configure_reportLost (f : PartConfig → PartConfig) : (s.configure f).reportLost = s.reportLost := rfl
@[simp] theorem State.configure_paused (f : PartConfig → PartConfig) : (s.configure f).paused = s.paused := rfl
@[simp] theorem State.configure_tx (f : PartConfig → PartConfig) : (s.configure f).tx = s.tx := rfl
@[simp] theorem State.configure_deferred (f : PartConfig → PartConfig) : (s.configure f).deferred = s.deferred := rfl
@[simp] theorem State.configure_requests (f : PartConfig → PartConfig) : (s.configure f).requests = s.requests := rfl
@[simp] theorem State.configure_headBound (f : PartConfig → PartConfig) : (s.configure f).headBound = s.headBound := rfl
@[simp] theorem State.configure_headTx (f : PartConfig → PartConfig) : (s.configure f).headTx = s.headTx := rfl
@[simp] theorem State.configure_cfg (f : PartConfig → PartConfig) : (s.configure f).cfg = f s.cfg := rfl
@[simp] theorem State.configure_cnt (f : PartConfig → PartConfig) : (s.configure f).cnt = s.cnt := rfl

/-! ### State.setClass -/

@[simp] theorem State.setClass_pending (k : ClassIx) (c : FaultClass) : (s.setClass k c).pending = s.pending := rfl
@[simp] theorem State.setClass_nrstLow (k : ClassIx) (c : FaultClass) : (s.setClass k c).nrstLow = s.nrstLow := rfl
@[simp] theorem State.setClass_tick (k : ClassIx) (c : FaultClass) : (s.setClass k c).tick = s.tick := rfl
@[simp] theorem State.setClass_strokes (k : ClassIx) (c : FaultClass) : (s.setClass k c).strokes = s.strokes := rfl
@[simp] theorem State.setClass_lastStroke (k : ClassIx) (c : FaultClass) : (s.setClass k c).lastStroke = s.lastStroke := rfl
@[simp] theorem State.setClass_run (k : ClassIx) (c : FaultClass) : (s.setClass k c).run = s.run := rfl
@[simp] theorem State.setClass_cycle (k : ClassIx) (c : FaultClass) : (s.setClass k c).cycle = s.cycle := rfl
@[simp] theorem State.setClass_horizon (k : ClassIx) (c : FaultClass) : (s.setClass k c).horizon = s.horizon := rfl
@[simp] theorem State.setClass_slots (k : ClassIx) (c : FaultClass) : (s.setClass k c).slots = s.slots := rfl
@[simp] theorem State.setClass_chans (k : ClassIx) (c : FaultClass) : (s.setClass k c).chans = s.chans := rfl
@[simp] theorem State.setClass_hits (k : ClassIx) (c : FaultClass) : (s.setClass k c).hits = s.hits := rfl
@[simp] theorem State.setClass_classes (k : ClassIx) (c : FaultClass) : (s.setClass k c).classes = s.classes.set k c := rfl
@[simp] theorem State.setClass_holdSet (k : ClassIx) (c : FaultClass) : (s.setClass k c).holdSet = s.holdSet := rfl
@[simp] theorem State.setClass_pendingHold (k : ClassIx) (c : FaultClass) : (s.setClass k c).pendingHold = s.pendingHold := rfl
@[simp] theorem State.setClass_holdExpiry (k : ClassIx) (c : FaultClass) : (s.setClass k c).holdExpiry = s.holdExpiry := rfl
@[simp] theorem State.setClass_rejectExpiry (k : ClassIx) (c : FaultClass) : (s.setClass k c).rejectExpiry = s.rejectExpiry := rfl
@[simp] theorem State.setClass_alert (k : ClassIx) (c : FaultClass) : (s.setClass k c).alert = s.alert := rfl
@[simp] theorem State.setClass_rePend (k : ClassIx) (c : FaultClass) : (s.setClass k c).rePend = s.rePend := rfl
@[simp] theorem State.setClass_news (k : ClassIx) (c : FaultClass) : (s.setClass k c).news = s.news := rfl
@[simp] theorem State.setClass_newsSince (k : ClassIx) (c : FaultClass) : (s.setClass k c).newsSince = s.newsSince := rfl
@[simp] theorem State.setClass_controlLane (k : ClassIx) (c : FaultClass) : (s.setClass k c).controlLane = s.controlLane := rfl
@[simp] theorem State.setClass_held (k : ClassIx) (c : FaultClass) : (s.setClass k c).held = s.held := rfl
@[simp] theorem State.setClass_sampleLane (k : ClassIx) (c : FaultClass) : (s.setClass k c).sampleLane = s.sampleLane := rfl
@[simp] theorem State.setClass_reportLost (k : ClassIx) (c : FaultClass) : (s.setClass k c).reportLost = s.reportLost := rfl
@[simp] theorem State.setClass_paused (k : ClassIx) (c : FaultClass) : (s.setClass k c).paused = s.paused := rfl
@[simp] theorem State.setClass_tx (k : ClassIx) (c : FaultClass) : (s.setClass k c).tx = s.tx := rfl
@[simp] theorem State.setClass_deferred (k : ClassIx) (c : FaultClass) : (s.setClass k c).deferred = s.deferred := rfl
@[simp] theorem State.setClass_requests (k : ClassIx) (c : FaultClass) : (s.setClass k c).requests = s.requests := rfl
@[simp] theorem State.setClass_headBound (k : ClassIx) (c : FaultClass) : (s.setClass k c).headBound = s.headBound := rfl
@[simp] theorem State.setClass_headTx (k : ClassIx) (c : FaultClass) : (s.setClass k c).headTx = s.headTx := rfl
@[simp] theorem State.setClass_cfg (k : ClassIx) (c : FaultClass) : (s.setClass k c).cfg = s.cfg := rfl
@[simp] theorem State.setClass_cnt (k : ClassIx) (c : FaultClass) : (s.setClass k c).cnt = s.cnt := rfl

/-! ### Reads after writes -/

@[simp] theorem State.chan_updChan_self (c : Chan) (f : Channel → Channel) : (s.updChan c f).chan c = f (s.chan c) := by
  simp [State.chan]

theorem State.chan_updChan_ne {c d : Chan} (f : Channel → Channel) (h : d ≠ c) : (s.updChan c f).chan d = s.chan d := by
  have h' : c.val ≠ d.val := fun e => h (Fin.ext e.symm)
  simp [State.chan, h']

@[simp] theorem State.slot_updSlot_self (k : SlotIx) (f : Slot → Slot) : (s.updSlot k f).slot k = f (s.slot k) := by
  simp [State.slot]

theorem State.slot_updSlot_ne {k j : SlotIx} (f : Slot → Slot) (h : j ≠ k) : (s.updSlot k f).slot j = s.slot j := by
  have h' : k.val ≠ j.val := fun e => h (Fin.ext e.symm)
  simp [State.slot, h']

@[simp] theorem State.slot_updChan (c : Chan) (f : Channel → Channel) (k : SlotIx) : (s.updChan c f).slot k = s.slot k := rfl
@[simp] theorem State.chan_updSlot (k : SlotIx) (f : Slot → Slot) (c : Chan) : (s.updSlot k f).chan c = s.chan c := rfl
@[simp] theorem State.chan_updCycle (f : Cycle → Cycle) (c : Chan) : (s.updCycle f).chan c = s.chan c := rfl
@[simp] theorem State.slot_updCycle (f : Cycle → Cycle) (k : SlotIx) : (s.updCycle f).slot k = s.slot k := rfl
@[simp] theorem State.chan_count (f : PartCounters → PartCounters) (c : Chan) : (s.count f).chan c = s.chan c := rfl
@[simp] theorem State.slot_count (f : PartCounters → PartCounters) (k : SlotIx) : (s.count f).slot k = s.slot k := rfl

/-- A zone that is read where a DEFINED slot's zone was written is what was written. -/
theorem State.zone?_setZone_self {k : SlotIx} (z : ZoneIx) (r : Option Zone) {p : Profile} (h : (s.slot k).profile = some p) :
    (s.setZone k z r).zone? k z = r := by
  simp [State.zone?, State.setZone, State.updProfile, h]

/-- A zone that is read at another position of the slot is as it was. -/
theorem State.zone?_setZone_ne {k : SlotIx} {z w : ZoneIx} (r : Option Zone) (h : w ≠ z) :
    (s.setZone k z r).zone? k w = s.zone? k w := by
  have h' : z.val ≠ w.val := fun e => h (Fin.ext e.symm)
  unfold State.zone? State.setZone State.updProfile
  rw [State.slot_updSlot_self]
  cases (s.slot k).profile with
  | none => rfl
  | some p => simp [h']

end Sys2Proof.Machine
end

