-- ==== Sys2Proof/Laws/Ops.lean ====
section
/-! SUPPORT. What each shared operation can do, said once: the loops, the arbiter, the transmitter, the hold sets, the pending
hit list, management's test. Later proofs cite these instead of unfolding the operations. -/

namespace Sys2Proof.Machine

/-! ### Loops and the reset gate -/

/-- A property that every pass keeps holds after the loop. -/
theorem forEach_keeps {α : Type} {P : State → Prop} {f : α → State → State} (hf : ∀ a s, P s → P (f a s)) :
    ∀ (l : List α) (s : State), P s → P (forEach f l s)
  | [], _, h => h
  | a :: as, s, h => forEach_keeps hf as (f a s) (hf a s h)

/-- What no pass changes the loop does not change. -/
theorem forEach_same {α β : Type} (g : State → β) {f : α → State → State} (hf : ∀ a s, g (f a s) = g s) (l : List α)
    (s : State) : g (forEach f l s) = g s :=
  forEach_keeps (P := fun t => g t = g s) (fun a t h => (hf a t).trans h) l s rfl

theorem takes_awake {s : State} (h : s.nrstLow = false) (f : State → State) : takes f s = .next (f s) := by
  simp [takes, outOfReset, h]

theorem takes_inReset {s : State} (h : s.nrstLow = true) (f : State → State) : takes f s = .next s := by
  simp [takes, outOfReset, h]

/-! ### The arbiter and the transmitter (R146) -/

/-- The arbiter waits, is held or is busy: nothing. -/
theorem arbitrate_busy {s : State} (h : s.deferred = true ∨ s.paused = true ∨ s.tx.isSome = true) : arbitrate s = s := by
  unfold arbitrate
  rcases h with h | h | h <;> simp [h]

/-- Everything the arbiter can do: nothing, start the alert, start the head of the control lane, or start the head of the sample
lane. -/
theorem arbitrate_cases (s : State) :
    arbitrate s = s ∨
      (s.alert = .pending ∧ s.tx = none ∧
        arbitrate s =
          { s with tx := some (.alert (alertContents s)), alert := .sending, rePend := false, newsSince := .none }) ∨
      (∃ f rest, s.controlLane = f :: rest ∧ s.tx = none ∧
        arbitrate s = { s with tx := some (.control f), controlLane := rest }) ∨
      ∃ f rest, s.sampleLane = f :: rest ∧ s.controlLane = [] ∧ s.tx = none ∧
        arbitrate s = { s with tx := some (.sample f), sampleLane := rest } := by
  by_cases hb : (s.deferred || s.paused || s.tx.isSome) = true
  · exact .inl (by simp [arbitrate, hb])
  · have htx : s.tx = none := by
      cases h : s.tx with
      | none => rfl
      | some t => simp [h] at hb
    by_cases ha : s.alert = .pending
    · exact .inr (.inl ⟨ha, htx, by simp only [arbitrate, hb, ha]; rfl⟩)
    · cases hc : s.controlLane with
      | cons f rest => exact .inr (.inr (.inl ⟨f, rest, rfl, htx, by simp only [arbitrate, hb, ha, hc]; rfl⟩))
      | nil =>
        cases hs : s.sampleLane with
        | cons f rest => exact .inr (.inr (.inr ⟨f, rest, rfl, rfl, htx, by simp only [arbitrate, hb, ha, hc, hs]; rfl⟩))
        | nil => exact .inl (by simp only [arbitrate, hb, ha, hc, hs]; rfl)

/-- After the arbiter has chosen, an IDLE transmitter of a FLOWING line that waits for nothing has nothing to send. -/
theorem arbitrate_quiet {s : State} (hd : s.deferred = false) (ht : (arbitrate s).tx = none) (hp : s.paused = false) :
    s.alert ≠ .pending ∧ s.controlLane = [] ∧ s.sampleLane = [] ∧ arbitrate s = s := by
  rcases arbitrate_cases s with h | ⟨_, _, h⟩ | ⟨f, rest, _, _, h⟩ | ⟨f, rest, _, _, _, h⟩
  · have htx : s.tx = none := h ▸ ht
    have h2 := h
    unfold arbitrate at h2
    simp only [hd, hp, htx, Option.isSome_none, Bool.or_false, Bool.false_eq_true, if_false] at h2
    by_cases ha : s.alert = .pending
    · rw [if_pos ha] at h2
      exact absurd ((congrArg State.tx h2).trans htx) (by simp)
    · rw [if_neg ha] at h2
      cases hc : s.controlLane with
      | cons f rest => rw [hc] at h2; exact absurd ((congrArg State.tx h2).trans htx) (by simp)
      | nil =>
        cases hs : s.sampleLane with
        | cons f rest => rw [hc, hs] at h2; exact absurd ((congrArg State.tx h2).trans htx) (by simp)
        | nil => exact ⟨ha, rfl, rfl, h⟩
  all_goals rw [h] at ht; cases ht

/-- Everything the end of a transmission can do before the arbiter chooses (R135, R146). -/
theorem txComplete_cases (s : State) :
    (s.tx = none ∧ txComplete s = s) ∨
      (∃ a, s.tx = some (.alert a) ∧
        txComplete s =
          { s with
            tx := none, news := s.newsSince, newsSince := .none, rePend := false
            alert := if s.rePend then .pending else .idle }) ∨
      (s.tx ≠ none ∧ (∀ a, s.tx ≠ some (.alert a)) ∧ txComplete s = { s with tx := none }) := by
  cases h : s.tx with
  | none => exact .inl ⟨rfl, by simp [txComplete, h]⟩
  | some f =>
    cases f with
    | alert a => exact .inr (.inl ⟨a, rfl, by simp [txComplete, h, alertComplete]⟩)
    | control f => exact .inr (.inr ⟨by simp, by simp, by simp [txComplete, h]⟩)
    | sample f => exact .inr (.inr ⟨by simp, by simp, by simp [txComplete, h]⟩)

/-! ### The hold sets (R127) -/

theorem mem_insertId {n m : Nat} : ∀ {l : List Nat}, m ∈ insertId n l ↔ m = n ∨ m ∈ l
  | [] => by simp [insertId]
  | k :: ks => by
    unfold insertId
    split
    · simp
    · split
      · rename_i h; subst h; simp
      · rw [List.mem_cons, mem_insertId (l := ks), List.mem_cons]; exact or_left_comm

theorem mem_insertIds {m : Nat} : ∀ {ns l : List Nat}, m ∈ insertIds ns l ↔ m ∈ ns ∨ m ∈ l
  | [], l => by simp [insertIds]
  | n :: ns, l => by rw [insertIds, mem_insertIds (ns := ns), mem_insertId, List.mem_cons, or_left_comm, or_assoc]

/-- An ascending set stays ascending. -/
theorem insertId_sorted {n : Nat} : ∀ {l : List Nat}, l.Pairwise (· < ·) → (insertId n l).Pairwise (· < ·)
  | [], _ => by simp [insertId]
  | k :: ks, h => by
    have hk := List.pairwise_cons.1 h
    unfold insertId
    split
    · rename_i hn
      refine List.pairwise_cons.2 ⟨fun a ha => ?_, h⟩
      rcases List.mem_cons.1 ha with rfl | ha
      · exact hn
      · exact Nat.lt_trans hn (hk.1 a ha)
    · split
      · exact h
      · refine List.pairwise_cons.2 ⟨fun a ha => ?_, insertId_sorted hk.2⟩
        rcases mem_insertId.1 ha with rfl | ha
        · omega
        · exact hk.1 a ha

theorem insertIds_sorted : ∀ {ns l : List Nat}, l.Pairwise (· < ·) → (insertIds ns l).Pairwise (· < ·)
  | [], _, h => h
  | _ :: ns, _, h => insertIds_sorted (ns := ns) (insertId_sorted h)

/-! ### The pending hit list (R80-R84) -/

theorem insertHit_length (h : Hit) : ∀ l : List Hit, (insertHit h l).length = l.length + 1
  | [] => rfl
  | g :: gs => by
    unfold insertHit
    split
    · rfl
    · simp [insertHit_length h gs]

theorem mem_insertHit {h g : Hit} : ∀ {l : List Hit}, g ∈ insertHit h l ↔ g = h ∨ g ∈ l
  | [] => by simp [insertHit]
  | f :: fs => by
    unfold insertHit
    split
    · simp
    · rw [List.mem_cons, mem_insertHit (l := fs), List.mem_cons]; exact or_left_comm

/-- Only the first zone that finds a partner is taken, and its partner is a candidate. -/
theorem zonePartner_mem {k : ZoneKind} {h g : Hit} {cands : List Hit} {d : Int}
    (hp : zonePartner k h cands = some (g, d)) : g ∈ cands := by
  unfold zonePartner at hp
  split at hp
  · cases hp
  · split at hp
    · split at hp
      · cases hp
      · rename_i f hf
        split at hp
        · cases hp; exact List.mem_of_find?_eq_some hf
        · cases hp
    · split at hp
      · split at hp
        · cases hp
        · rename_i f hf
          split at hp
          · cases hp; exact List.mem_of_find?_eq_some hf
          · cases hp
      · cases hp

theorem findPair_mem {h g : Hit} {cands : List Hit} {z : ZoneIx} {r : Zone} {d : Int} :
    ∀ {zs : List (ZoneIx × Zone)}, findPair h cands zs = some (z, r, g, d) → g ∈ cands
  | (w, q) :: zs, hf => by
    unfold findPair at hf
    split at hf
    · rename_i hz; cases hf; exact zonePartner_mem hz
    · exact findPair_mem (zs := zs) hf

/-! ### Management's test (R157) -/

theorem serve_nil {s : State} (h : s.requests = []) (n : Nat) : serve n s = s := by
  cases n with
  | zero => rfl
  | succ n => unfold serve; rw [h]

theorem serve_full {s : State} (h : s.controlFree = 0) (n : Nat) : serve n s = s := by
  cases n with
  | zero => rfl
  | succ n =>
    unfold serve
    split
    · rfl
    · simp [h]

/-- One turn of management's test. -/
theorem serve_take {s : State} {r : TaggedRequest} {rest : List TaggedRequest} (h : s.requests = r :: rest)
    (hf : 1 ≤ s.controlFree) (n : Nat) : serve (n + 1) s = serve n (execute r { s with requests := rest }) := by
  rw [serve, h]
  simp [hf]

end Sys2Proof.Machine
end

