-- ==== Sys2Proof/Laws/Frames.lean ====
section
/-! SUPPORT. What faults, actions and the arbiter leave alone, said once, and how a request reaches its execution. Later proofs
cite these instead of unfolding the operations. -/

namespace Sys2Proof.Machine

/-! ### The frame of faults, actions and the arbiter (R122, R126, R146) -/

/-- What no fault, action or choice of the arbiter touches: everything but the classes' condition, forced and sticky bits, the
hold sets and timers, the alert and its news, the two lanes and the transmitter; of the open cycle it may set the REJECT
flag alone. -/
structure FaultFrame (s t : State) : Prop where
  base : SameBase s t
  run : t.run = s.run
  cycle : t.cycle = s.cycle ∨ t.cycle = s.cycle.map fun cy => { cy with flags := { cy.flags with reject := true } }
  horizon : t.horizon = s.horizon
  slots : t.slots = s.slots
  chans : t.chans = s.chans
  hits : t.hits = s.hits
  reportLost : t.reportLost = s.reportLost
  cfg : t.cfg = s.cfg
  cnt : t.cnt = s.cnt

theorem SameBase.refl (s : State) : SameBase s s := by constructor <;> simp

theorem SameBase.trans {s t u : State} (h : SameBase s t) (g : SameBase t u) : SameBase s u where
  pending := g.pending.trans h.pending
  nrst := g.nrst.trans h.nrst
  tick := g.tick.trans h.tick
  strokes := g.strokes.trans h.strokes
  lastStroke := g.lastStroke.trans h.lastStroke
  paused := g.paused.trans h.paused
  requests := g.requests.trans h.requests
  headBound := g.headBound.trans h.headBound
  headTx := g.headTx.trans h.headTx
  held := g.held.trans h.held
  deferred := g.deferred.trans h.deferred
  classes k := ⟨(g.classes k).1.trans (h.classes k).1, (g.classes k).2.trans (h.classes k).2⟩

theorem FaultFrame.refl (s : State) : FaultFrame s s :=
  ⟨.refl s, rfl, .inl rfl, rfl, rfl, rfl, rfl, rfl, rfl, rfl⟩

theorem FaultFrame.trans {s t u : State} (h : FaultFrame s t) (g : FaultFrame t u) : FaultFrame s u where
  base := h.base.trans g.base
  run := g.run.trans h.run
  cycle := by
    rcases g.cycle with e | e <;> rcases h.cycle with d | d <;> rw [e, d]
    · exact .inl rfl
    · exact .inr rfl
    · exact .inr rfl
    · refine .inr ?_; cases s.cycle <;> rfl
  horizon := g.horizon.trans h.horizon
  slots := g.slots.trans h.slots
  chans := g.chans.trans h.chans
  hits := g.hits.trans h.hits
  reportLost := g.reportLost.trans h.reportLost
  cfg := g.cfg.trans h.cfg
  cnt := g.cnt.trans h.cnt

theorem arbitrate_frame (s : State) : FaultFrame s (arbitrate s) := by
  rcases arbitrate_cases s with h | ⟨_, _, h⟩ | ⟨_, _, _, _, h⟩ | ⟨_, _, _, _, _, h⟩ <;> rw [h] <;>
    refine ⟨⟨rfl, rfl, rfl, rfl, rfl, rfl, rfl, rfl, rfl, rfl, rfl, fun _ => ⟨rfl, rfl⟩⟩, rfl, .inl rfl, rfl, rfl, rfl, rfl,
      rfl, rfl, rfl⟩

theorem alertCause_frame (s : State) : FaultFrame s (alertCause s) := by
  unfold alertCause
  split <;>
    refine ⟨⟨rfl, rfl, rfl, rfl, rfl, rfl, rfl, rfl, rfl, rfl, rfl, fun _ => ⟨rfl, rfl⟩⟩, rfl, .inl rfl, rfl, rfl, rfl, rfl,
      rfl, rfl, rfl⟩

theorem noteChanged_frame (k : ClassIx) (s : State) : FaultFrame s (noteChanged k s) :=
  ⟨⟨rfl, rfl, rfl, rfl, rfl, rfl, rfl, rfl, rfl, rfl, rfl, fun _ => ⟨rfl, rfl⟩⟩, rfl, .inl rfl, rfl, rfl, rfl, rfl, rfl, rfl,
    rfl⟩

theorem noteZone_frame (a : ZoneAlert) (s : State) : FaultFrame s (noteZone a s) :=
  ⟨⟨rfl, rfl, rfl, rfl, rfl, rfl, rfl, rfl, rfl, rfl, rfl, fun _ => ⟨rfl, rfl⟩⟩, rfl, .inl rfl, rfl, rfl, rfl, rfl, rfl, rfl,
    rfl⟩

theorem addHold_frame (ids : List Nat) (s : State) : FaultFrame s (addHold ids s) :=
  ⟨⟨rfl, rfl, rfl, rfl, rfl, rfl, rfl, rfl, rfl, rfl, rfl, fun _ => ⟨rfl, rfl⟩⟩, rfl, .inl rfl, rfl, rfl, rfl, rfl, rfl, rfl,
    rfl⟩

theorem closeNotice_frame (s : State) : FaultFrame s (closeNotice s) := by
  unfold closeNotice
  split
  · exact .refl s
  · exact ⟨⟨rfl, rfl, rfl, rfl, rfl, rfl, rfl, rfl, rfl, rfl, rfl, fun _ => ⟨rfl, rfl⟩⟩, rfl, .inl rfl, rfl, rfl, rfl, rfl,
      rfl, rfl, rfl⟩

/-- An action changes the outputs and the open cycle's REJECT flag alone (R126, R128, R132, R133). -/
theorem act_frame (code : ActionCode) (id : Nat) (s : State) : FaultFrame s (act code id s) := by
  cases code with
  | none => exact .refl s
  | alert => exact .refl s
  | reject =>
    exact ⟨⟨rfl, rfl, rfl, rfl, rfl, rfl, rfl, rfl, rfl, rfl, rfl, fun _ => ⟨rfl, rfl⟩⟩, rfl, .inr rfl, rfl, rfl, rfl, rfl,
      rfl, rfl, rfl⟩
  | holdAtEnd =>
    simp only [act]
    split
    · exact ⟨⟨rfl, rfl, rfl, rfl, rfl, rfl, rfl, rfl, rfl, rfl, rfl, fun _ => ⟨rfl, rfl⟩⟩, rfl, .inl rfl, rfl, rfl, rfl,
        rfl, rfl, rfl, rfl⟩
    · exact addHold_frame [id] s
  | holdNow => exact addHold_frame [id] s

theorem fireZone_frame (k : SlotIx) (z : ZoneIx) (code : ActionCode) (st : ZoneState) (s : State) :
    FaultFrame s (fireZone k z code st s) := by
  unfold fireZone
  split
  · exact .refl s
  · exact ((noteZone_frame _ _).trans (act_frame _ _ _)).trans (alertCause_frame _)

/-- A class's record with its mask and action kept. -/
theorem setClass_frame (k : ClassIx) (c : FaultClass) (s : State) (hm : c.masked = s.classes[k].masked)
    (ha : c.action = s.classes[k].action) : FaultFrame s (s.setClass k c) := by
  refine ⟨⟨rfl, rfl, rfl, rfl, rfl, rfl, rfl, rfl, rfl, rfl, rfl, fun j => ?_⟩, rfl, .inl rfl, rfl, rfl, rfl, rfl, rfl, rfl,
    rfl⟩
  by_cases h : j = k
  · subst h; simp [State.setClass, hm, ha]
  · have : k.val ≠ j.val := fun e => h (Fin.ext e.symm)
    simp [State.setClass, Vector.getElem_set_ne, this]

theorem rise_frame (k : ClassIx) (s : State) : FaultFrame s (rise k s) := by
  unfold rise
  have h := (setClass_frame k { s.classes[k] with sticky := true } s rfl rfl).trans (noteChanged_frame k _)
  dsimp only
  split
  · exact h
  · exact (h.trans (act_frame _ _ _)).trans (alertCause_frame _)

theorem replaceClass_frame (k : ClassIx) (c : FaultClass) (s : State) (hm : c.masked = s.classes[k].masked)
    (ha : c.action = s.classes[k].action) : FaultFrame s (replaceClass k c s) := by
  have h := setClass_frame k c s hm ha
  unfold replaceClass
  dsimp only
  split
  · exact h.trans (rise_frame k _)
  · split
    · exact h.trans (noteChanged_frame k _)
    · exact h

/-- A change of a condition (R122). -/
theorem setCond_frame (k : ClassIx) (b : Bool) (s : State) : FaultFrame s (setCond k b s) :=
  replaceClass_frame k _ s rfl rfl

/-- A change of a forced bit (R177). -/
theorem setForced_frame (k : ClassIx) (b : Bool) (s : State) : FaultFrame s (setForced k b s) :=
  replaceClass_frame k _ s rfl rfl

/-- A level condition reported (R121, R146). -/
theorem signal_frame (k : ClassIx) (b : Bool) (s : State) : FaultFrame s (signal k b s) :=
  (setCond_frame k b s).trans (arbitrate_frame _)

/-- A momentary cause reported (R121, R146). -/
theorem raise_frame (k : ClassIx) (s : State) : FaultFrame s (raise k s) :=
  ((setCond_frame k true s).trans (setCond_frame k false _)).trans (arbitrate_frame _)

/-! ### A request's way to its execution (R156, R157) -/

/-- A request that finds nothing in its way is executed at once. -/
theorem arrive_ready {s : State} (r : TaggedRequest) (h : Ready s) : takes (arriveRequest r) s = .next (execute r s) := by
  have hs : ({ s with requests := [r] } : State).controlFree = 16 - s.controlLane.length := by
    simp [State.controlFree, State.controlFill, h.held, Config.controlLaneCapacity]
  have hf : 1 ≤ ({ s with requests := [r] } : State).controlFree := by rw [hs]; have := h.free; omega
  have he : ({ s with requests := [] } : State) = s := by rw [← h.queue]
  rw [takes_awake h.nrst]
  simp only [arriveRequest, h.queue, List.length_nil, Config.requestCapacity, Nat.zero_lt_succ, if_true, List.nil_append,
    serveRequests, List.length_cons]
  rw [serve_take rfl hf]
  exact congrArg (fun x => Host.Outcome.next (execute r x)) he

/-- Its RESPONSE enters the lane after what it did. -/
theorem execute_answered (r : TaggedRequest) (s : State) :
    execute r s =
      answered r.tag r.req.code (perform r.req { s with held := true, deferred := true }).status
        (perform r.req { s with held := true, deferred := true }).body
        { (perform r.req { s with held := true, deferred := true }).state with held := false, deferred := false } := rfl

end Sys2Proof.Machine
end

