-- ==== Sys2Proof/Laws/Cycle.lean ====
section
/-! SUPPORT. What the assembler, the evaluator, the cycle controller and the lanes leave alone, said once: the time base, the
queues of management, the run state and the configuration. Later proofs cite these instead of unfolding the operations. -/

namespace Sys2Proof.Machine

/-- What no hit, event, close, offer or test touches, besides what each names. -/
structure WorkFrame (s t : State) : Prop where
  base : SameBase s t
  run : t.run = s.run
  cfg : t.cfg = s.cfg

theorem WorkFrame.refl (s : State) : WorkFrame s s := ⟨.refl s, rfl, rfl⟩

theorem WorkFrame.trans {s t u : State} (h : WorkFrame s t) (g : WorkFrame t u) : WorkFrame s u :=
  ⟨h.base.trans g.base, g.run.trans h.run, g.cfg.trans h.cfg⟩

theorem FaultFrame.work {s t : State} (h : FaultFrame s t) : WorkFrame s t := ⟨h.base, h.run, h.cfg⟩

/-- A loop whose passes keep the frame keeps it. -/
theorem forEach_work {α : Type} {f : α → State → State} (hf : ∀ a s, WorkFrame s (f a s)) :
    ∀ (l : List α) (s : State), WorkFrame s (forEach f l s)
  | [], s => .refl s
  | a :: as, s => (hf a s).trans (forEach_work hf as (f a s))

/-! ### Plain updates -/

theorem updChan_work (c : Chan) (f : Channel → Channel) (s : State) : WorkFrame s (s.updChan c f) :=
  ⟨⟨rfl, rfl, rfl, rfl, rfl, rfl, rfl, rfl, rfl, rfl, rfl, fun _ => ⟨rfl, rfl⟩⟩, rfl, rfl⟩

theorem updSlot_work (k : SlotIx) (f : Slot → Slot) (s : State) : WorkFrame s (s.updSlot k f) :=
  ⟨⟨rfl, rfl, rfl, rfl, rfl, rfl, rfl, rfl, rfl, rfl, rfl, fun _ => ⟨rfl, rfl⟩⟩, rfl, rfl⟩

theorem updProfile_work (k : SlotIx) (f : Profile → Profile) (s : State) : WorkFrame s (s.updProfile k f) :=
  updSlot_work k _ s

theorem setZone_work (k : SlotIx) (z : ZoneIx) (r : Option Zone) (s : State) : WorkFrame s (s.setZone k z r) :=
  updProfile_work k _ s

theorem updCycle_work (f : Cycle → Cycle) (s : State) : WorkFrame s (s.updCycle f) :=
  ⟨⟨rfl, rfl, rfl, rfl, rfl, rfl, rfl, rfl, rfl, rfl, rfl, fun _ => ⟨rfl, rfl⟩⟩, rfl, rfl⟩

theorem count_work (f : PartCounters → PartCounters) (s : State) : WorkFrame s (s.count f) :=
  ⟨⟨rfl, rfl, rfl, rfl, rfl, rfl, rfl, rfl, rfl, rfl, rfl, fun _ => ⟨rfl, rfl⟩⟩, rfl, rfl⟩

theorem setHits_work (l : List Hit) (s : State) : WorkFrame s { s with hits := l } :=
  ⟨⟨rfl, rfl, rfl, rfl, rfl, rfl, rfl, rfl, rfl, rfl, rfl, fun _ => ⟨rfl, rfl⟩⟩, rfl, rfl⟩

theorem setCycle_work (cy : Option Cycle) (s : State) : WorkFrame s { s with cycle := cy } :=
  ⟨⟨rfl, rfl, rfl, rfl, rfl, rfl, rfl, rfl, rfl, rfl, rfl, fun _ => ⟨rfl, rfl⟩⟩, rfl, rfl⟩

/-! ### Egress (R143-R145) -/

theorem enterControl_work (f : ControlFrame) (s : State) : WorkFrame s (enterControl f s) :=
  WorkFrame.trans (t := { s with controlLane := s.controlLane ++ [f] })
    ⟨⟨rfl, rfl, rfl, rfl, rfl, rfl, rfl, rfl, rfl, rfl, rfl, fun _ => ⟨rfl, rfl⟩⟩, rfl, rfl⟩ (arbitrate_frame _).work

theorem offerEvent_work (e : EventRec) (s : State) : WorkFrame s (offerEvent e s) := by
  unfold offerEvent
  split
  · split
    · exact enterControl_work _ s
    · exact count_work _ s
  · exact .refl s

theorem offerReport_work (r : Report) (s : State) : WorkFrame s (offerReport r s) := by
  unfold offerReport
  split
  · exact WorkFrame.trans (t := { s with reportLost := if r.flags.reportLost then false else s.reportLost })
      ⟨⟨rfl, rfl, rfl, rfl, rfl, rfl, rfl, rfl, rfl, rfl, rfl, fun _ => ⟨rfl, rfl⟩⟩, rfl, rfl⟩ (enterControl_work _ _)
  · exact WorkFrame.trans
      (t := { s.count (fun k => { k with reportsLost := inc16 k.reportsLost }) with reportLost := true })
      ⟨⟨rfl, rfl, rfl, rfl, rfl, rfl, rfl, rfl, rfl, rfl, rfl, fun _ => ⟨rfl, rfl⟩⟩, rfl, rfl⟩ (raise_frame _ _).work

theorem offerSample_work (c : Chan) (payload : List Byte) (gap start inHit : Bool) (s : State) :
    WorkFrame s (offerSample c payload gap start inHit s) := by
  unfold offerSample
  dsimp only
  split
  · refine WorkFrame.trans ?_ (arbitrate_frame _).work
    exact ⟨⟨rfl, rfl, rfl, rfl, rfl, rfl, rfl, rfl, rfl, rfl, rfl, fun _ => ⟨rfl, rfl⟩⟩, rfl, rfl⟩
  · exact (updChan_work c _ s).trans (raise_frame _ _).work

/-! ### The assembler (R81-R95) -/

theorem takeEvent_work (e : EventRec) (s : State) : WorkFrame s (takeEvent e s) :=
  (updCycle_work _ s).trans (offerEvent_work e _)

theorem resolveHit_work (h : Hit) (rest : List Hit) (s : State) : WorkFrame s (resolveHit h rest s) := by
  unfold resolveHit
  have hr := setHits_work rest s
  dsimp only
  split
  · exact hr.trans (updCycle_work _ _)
  · split
    · exact ((hr.trans (setHits_work _ _)).trans (updCycle_work _ _)).trans (takeEvent_work _ _)
    · split
      · exact (hr.trans (updCycle_work _ _)).trans (takeEvent_work _ _)
      · exact hr.trans (updCycle_work _ _)

theorem resolveHead_work (s : State) : WorkFrame s (resolveHead s) := by
  unfold resolveHead
  split
  · exact .refl s
  · exact resolveHit_work _ _ s

theorem resolveReady_work : ∀ (n : Nat) (s : State), WorkFrame s (resolveReady n s)
  | 0, s => .refl s
  | n + 1, s => by
    unfold resolveReady
    split
    · exact .refl s
    · split
      · exact (resolveHead_work s).trans (resolveReady_work n _)
      · exact .refl s

theorem resolveMany_work : ∀ (n : Nat) (s : State), WorkFrame s (resolveMany n s)
  | 0, s => .refl s
  | n + 1, s => (resolveHead_work s).trans (resolveMany_work n _)

theorem resolutionTest_work (s : State) : WorkFrame s (resolutionTest s) := resolveReady_work _ s

theorem resolveAll_work (s : State) : WorkFrame s (resolveAll s) := resolveMany_work _ s

theorem joinList_work (h : Hit) (s : State) : WorkFrame s (joinList h s) := by
  unfold joinList
  have hj (t : State) :
      WorkFrame t
        (resolutionTest
          ({ t with hits := insertHit h t.hits }.updCounts fun k => { k with hitsClosed := inc32 k.hitsClosed })) :=
    ((setHits_work _ t).trans (updCycle_work _ _)).trans (resolutionTest_work _)
  dsimp only
  split
  · exact (((resolveHead_work s).trans (count_work _ _)).trans (raise_frame _ _).work).trans (hj _)
  · exact hj s

theorem handOn_work (h : Hit) (s : State) : WorkFrame s (handOn h s) :=
  (updChan_work _ _ s).trans (joinList_work h _)

/-- A head that resolves leaves the list shorter. -/
theorem resolveHead_length {s : State} {h : Hit} {rest : List Hit} (hs : s.hits = h :: rest) :
    (resolveHead s).hits.length ≤ rest.length := by
  have hits_of (e : EventRec) (t : State) : (takeEvent e t).hits = t.hits := by
    unfold takeEvent offerEvent enterControl
    split
    · split
      · exact (arbitrate_frame _).hits
      · rfl
    · rfl
  unfold resolveHead
  rw [hs]
  dsimp only
  unfold resolveHit
  dsimp only
  split
  · exact Nat.le_refl _
  · split
    · rw [hits_of]; exact List.length_erase_le
    · split
      · rw [hits_of]; exact Nat.le_refl _
      · exact Nat.le_refl _

/-- The final resolution leaves no pending hit (R95). -/
theorem resolveAll_hits (s : State) : (resolveAll s).hits = [] := by
  have main : ∀ (n : Nat) (s : State), s.hits.length ≤ n → (resolveMany n s).hits = [] := by
    intro n
    induction n with
    | zero => intro s h; exact List.length_eq_zero_iff.1 (Nat.le_zero.1 h)
    | succ n ih =>
      intro s h
      refine ih _ ?_
      cases hs : s.hits with
      | nil => unfold resolveHead; rw [hs]; simp [hs]
      | cons g gs => have := resolveHead_length hs; rw [hs] at h; simp at h; omega
  exact main _ s (Nat.le_refl _)

/-! ### The evaluator and the cycle controller (R38, R39, R99, R100) -/

theorem evaluateAt_work (k : SlotIx) (cy : Cycle) (z : ZoneIx) (s : State) : WorkFrame s (evaluateAt k cy z s) := by
  unfold evaluateAt
  split
  · exact .refl s
  · dsimp only
    exact (setZone_work _ _ _ s).trans (fireZone_frame _ _ _ _ _).work

theorem evaluateSlot_work (k : SlotIx) (cy : Cycle) (s : State) : WorkFrame s (evaluateSlot k cy s) := by
  unfold evaluateSlot
  exact (forEach_work (evaluateAt_work k cy) allZones s).trans (updProfile_work _ _ _)

theorem evaluateCycle_work (cy : Cycle) (s : State) : WorkFrame s (evaluateCycle cy s) := by
  unfold evaluateCycle
  split
  · exact .refl s
  · exact evaluateSlot_work _ _ s

theorem releaseSlot_work (cy : Cycle) (s : State) : WorkFrame s (releaseSlot cy s) := by
  unfold releaseSlot
  split
  · exact .refl s
  · exact updSlot_work _ _ s

theorem clearCycle_work (s : State) : WorkFrame s (clearCycle s) :=
  (setCycle_work none s).trans (setCond_frame _ _ _).work

theorem finishClose_work (s : State) : WorkFrame s (finishClose s) := by
  have report (t : State) : WorkFrame t (reportAndClear t) := by
    unfold reportAndClear
    split
    · exact .refl t
    · exact (((releaseSlot_work _ t).trans (offerReport_work _ _)).trans (closeNotice_frame _).work).trans
        (clearCycle_work _)
  unfold finishClose
  dsimp only
  split
  · exact resolveAll_work s
  · exact ((resolveAll_work s).trans (evaluateCycle_work _ _)).trans (report _)

theorem truncateAtClose_work (cy : Cycle) (c : Chan) (s : State) : WorkFrame s (truncateAtClose cy c s) := by
  unfold truncateAtClose
  split
  · exact .refl s
  · split
    · exact (updChan_work c _ s).trans (handOn_work _ _)
    · exact .refl s

theorem discardHit_work (c : Chan) (s : State) : WorkFrame s (discardHit c s) := by
  unfold discardHit
  split
  · exact .refl s
  · exact updChan_work c _ s

/-- What runs with the arbiter's choice put off, and then makes it. -/
theorem deferred_work {s t : State} (h : WorkFrame { s with deferred := true } t) :
    WorkFrame s (arbitrate { t with deferred := s.deferred }) := by
  refine WorkFrame.trans (t := { t with deferred := s.deferred }) ?_ (arbitrate_frame _).work
  have b := h.base
  exact ⟨⟨b.pending, b.nrst, b.tick, b.strokes, b.lastStroke, b.paused, b.requests, b.headBound, b.headTx, b.held, rfl,
    b.classes⟩, h.run, h.cfg⟩

theorem setHorizon_work (e : Option Tick) (s : State) : WorkFrame s { s with horizon := e } :=
  ⟨⟨rfl, rfl, rfl, rfl, rfl, rfl, rfl, rfl, rfl, rfl, rfl, fun _ => ⟨rfl, rfl⟩⟩, rfl, rfl⟩

/-- A close, normal or forced. -/
theorem closeCycle_work (forced : Bool) (s : State) : WorkFrame s (closeCycle forced s) := by
  unfold closeCycle
  split
  · exact .refl s
  · rename_i cy _
    have hx := setHorizon_work cy.endTick { s with deferred := true }
    cases forced
    · exact deferred_work (hx.trans (finishClose_work _))
    · exact deferred_work ((hx.trans (forEach_work (truncateAtClose_work cy) allChans _)).trans (finishClose_work _))

theorem forceClose_work (timeout : Bool) (s : State) : WorkFrame s (forceClose timeout s) :=
  (updCycle_work _ s).trans (closeCycle_work true _)

/-- The discard of the open hits, the report and the clearing of an abandonment. -/
theorem discardAndClear_work (r : Report) (cy : Cycle) (x : State) :
    WorkFrame x
      (clearCycle (closeNotice (offerReport r (releaseSlot cy { forEach discardHit allChans x with hits := [] })))) :=
  ((((forEach_work discardHit_work allChans x).trans (setHits_work [] _)).trans (releaseSlot_work cy _)).trans
    (offerReport_work r _)).trans ((closeNotice_frame _).work.trans (clearCycle_work _))

/-- An abandonment. -/
theorem abandonCycle_work (s : State) : WorkFrame s (abandonCycle s) := by
  unfold abandonCycle
  split
  · exact .refl s
  · rename_i cy _
    let cy' : Cycle := { cy with endTick := some (cy.endTick.getD s.tick), flags := { cy.flags with abandoned := true } }
    let x : State := { s with cycle := some cy', horizon := some s.tick, deferred := true }
    have hx : WorkFrame { s with deferred := true } x :=
      ⟨⟨rfl, rfl, rfl, rfl, rfl, rfl, rfl, rfl, rfl, rfl, rfl, fun _ => ⟨rfl, rfl⟩⟩, rfl, rfl⟩
    exact deferred_work (hx.trans (discardAndClear_work (buildReport { forEach discardHit allChans x with hits := [] } cy' [])
      cy' x))

theorem settleTest_work (s : State) : WorkFrame s (settleTest s) := by
  unfold settleTest
  split
  · exact closeCycle_work false s
  · exact .refl s

theorem settledMoved_work (s : State) : WorkFrame s (settledMoved s) :=
  (resolutionTest_work s).trans (settleTest_work _)

end Sys2Proof.Machine
end

