-- ==== Sys2Proof/Tests/Slice0.lean ====
section
/-! SUPPORT. Tests: the refusals of WellFormed, the worked examples of the manual (each test names the one it takes its
expected values from), and for each statement with hypotheses a state and operands that meet them. -/

namespace Sys2Proof.Tests

open Sys2Proof.Machine

-- The tests are kernel evaluations: one after another they need few threads and little memory.
set_option Elab.async false

/-! ### WellFormed refuses what does not fit a row -/

theorem test_refuses_long_sample : wellFormed (.sampleFrame 0 (List.replicate 251 0)) = false := by decide +kernel
theorem test_refuses_long_relay : wellFormed (.headFrameRelay (List.replicate 251 0)) = false := by decide +kernel
theorem test_refuses_long_request : wellFormed (.requestEnqueue (List.replicate 251 0)) = false := by decide +kernel
theorem test_refuses_long_head_bound : wellFormed (.headBoundEnqueue 0 (List.replicate 251 0)) = false := by decide +kernel
/-- The bytes of a sound CYCLE_END frame are no bad frame. -/
theorem test_refuses_sound_frame :
    wellFormed (.headLinkBadFrame (envelope 0x20 0x02 [3]) .endDelimiter) = false ∧
      wellFormed (.lineLinkBadFrame (envelope 0x20 0x02 [3]) .endDelimiter) = false := by decide +kernel
/-- Three bytes are not 256. -/
theorem test_refuses_short_overlong :
    wellFormed (.headLinkBadFrame [1, 2, 3] .overlong) = false ∧ wellFormed (.lineLinkBadFrame [1, 2, 3] .overlong) = false := by
  decide +kernel
/-- A SAMPLE frame to 0x07 and a HEAD frame to 0x30 are routed, and a payload of 251 bytes fits no frame. -/
theorem test_refuses_head_misaddressed :
    wellFormed (.headLinkMisaddressed 7 1 []) = false ∧ wellFormed (.headLinkMisaddressed 0x30 8 []) = false ∧
      wellFormed (.headLinkMisaddressed 8 1 (List.replicate 251 0)) = false := by decide +kernel
theorem test_refuses_line_misaddressed :
    wellFormed (.lineLinkMisaddressed 0x20 2 []) = false ∧ wellFormed (.lineLinkMisaddressed 0x13 8 []) = false ∧
      wellFormed (.lineLinkMisaddressed 0x14 8 (List.replicate 251 0)) = false := by decide +kernel
theorem test_refuses_sound_marker :
    wellFormed (.markerFormatError [3]) = false ∧ wellFormed (.markerFormatError (List.replicate 251 0)) = false := by
  decide +kernel
theorem test_refuses_sound_request :
    wellFormed (.badRequest [0, 1]) = false ∧ wellFormed (.badRequest (List.replicate 251 0)) = false := by decide +kernel
theorem test_refuses_flags : wellFormed (.readCounters 0 1) = false ∧ wellFormed (.releaseHoldOne 0 1 0) = false := by
  decide +kernel
theorem test_accepts :
    wellFormed (.sampleFrame 0 (List.replicate 250 0)) = true ∧ wellFormed (.headLinkBadFrame [] .linkSymbol) = true ∧
      wellFormed (.markerFormatError [4]) = true ∧ wellFormed (.badRequest [0x16, 1]) = true ∧
      wellFormed (.headLinkMisaddressed 8 1 []) = true ∧ wellFormed (.lineLinkMisaddressed 0x14 8 []) = true ∧
      wellFormed (.headLinkBadFrame (List.replicate 256 0) .overlong) = true := by decide +kernel

/-! ### Helpers -/

/-- What a test looks at after a command. -/
def after {α : Type} (o : Host.Outcome State Fault Refusal) (f : State → α) : Option α :=
  match o with
  | .next t => some (f t)
  | _ => none

/-- Channel c LIVE with settled tick g, in step at g + 1 and its loss timer started at tick l. -/
def live (c : Chan) (g l : Tick) (s : State) : State :=
  { s.updChan c fun ch =>
      { ch with intake := .live, expected := some (g + 1), sigma := some g, lossFrom := some l, det := .armed } with
    cfg := { s.cfg with channelEnable := s.cfg.channelEnable ||| BitVec.ofNat 8 (2 ^ c.val) } }

/-- A zone definition with the widest ranges, to be narrowed by a test. -/
def wide (k : ZoneKind) : ZoneDef :=
  { kind := k, phaseMask := 0x3F, gateLo := 0, gateHi := 255, requirePhase := false, minArea := 0, countLimit := 1,
    areaShift := 4, leakShift := 4, watchLevel := 100, watchHyst := 0, tripLevel := 60000, tripCycles := 8,
    watchAction := ⟨.none, false⟩, crackAction := ⟨.none, false⟩ }

/-- A slot's profile with some zones. -/
def profile (m : MouldId) (zs : List (ZoneIx × Zone)) : Profile :=
  { mouldId := m, cycleCount := 412, records := Vector.replicate 8 ⟨400, 400, 400, 150, 4⟩
    zones := zs.foldl (fun v p => v.set p.1 (some p.2)) (Vector.replicate 16 none) }

/-- RUNNING at tick t with the profile in slot 2. -/
def loaded (t : Tick) (p : Profile) : State :=
  { State.reset with run := .running, tick := t, slots := State.reset.slots.set 2 ⟨some p, false⟩ }

/-- A cycle record on a slot, open since tick t. -/
def cycleAt (n : CycleNumber) (k : Option SlotIx) (t : Tick) (log : List PhaseEntry) : Cycle :=
  { newCycle State.reset 0x0350 n k with startTick := t, log := log }

/-- The cycle open in a loaded state, on slot 2. -/
def opened (n : CycleNumber) (t : Tick) (log : List PhaseEntry) (s : State) : State :=
  { s.markSlot 2 true with cycle := some (cycleAt n (some 2) t log) }

/-! ### Frames and layouts (chapters 3 and 10) -/

/-- R43: the CRC of the nine bytes 0x31 to 0x39. -/
theorem test_crc : crc16 [0x31, 0x32, 0x33, 0x34, 0x35, 0x36, 0x37, 0x38, 0x39] = 0x29B1 := by decide +kernel

/-- The frame of channel 3 with stamp 1,500,000 modulo 65,536: the bytes of the example of section 10.2. -/
def hitPayload : List Byte :=
  [0xE3, 0x60, 0x00, 0xB4, 0xB0, 0xB6, 0x02, 0x30, 0x02, 0x62, 0x04, 0xB0, 0x09, 0x92, 0x07, 0x6C, 0x03, 0x84, 0x01, 0xD6,
    0x01, 0xA4, 0xA0, 0xB5]

/-- The example of section 3.3: eleven items expand to sixteen samples. -/
theorem test_payload_expansion :
    decodeSamples hitPayload =
      some (58208, [180, 182, 182, 182, 182, 560, 610, 1200, 2450, 1900, 900, 470, 420, 181, 181, 181]) := by decide +kernel

/-- The same example: a twelfth item makes a format error. -/
theorem test_twelfth_item : decodeSamples (hitPayload ++ [0, 1]) = none := by decide +kernel

/-- Section 10.2: with HIT_START and IN_HIT the forwarded frame is 30 bytes with trailer 0x03. -/
theorem test_trailer :
    (LineFrame.sample ⟨3, hitPayload, true, true, false, false⟩).bytes.length = 30 ∧
      (SampleOut.trailer ⟨3, hitPayload, true, true, false, false⟩) = 0x03 := by decide +kernel

/-- The example of section 10.4: pair_span to 24 with tag 6, and the tag byte 0x16. -/
theorem test_request_bytes :
    parseRequest [0x06, 0x03, 0x09, 0x00, 0x18] = ⟨6, .setConfig (.pairSpan 0 24)⟩ ∧
      parseRequest [0x16, 0x03, 0x09, 0x00, 0x18] = ⟨6, .malformed 3⟩ := by decide +kernel

theorem test_response_bytes :
    after (exec (.setPairSpan 6 0 0x18) State.reset) (fun t => (t.tx.map LineFrame.bytes).map (·.take 6)) =
        some (some [0x30, 0x04, 3, 0x06, 0x03, 0x00]) ∧
      after (exec (.badRequest [0x16, 0x03, 0x09, 0x00, 0x18]) State.reset)
          (fun t => (t.tx.map LineFrame.bytes).map fun b => (b.drop 3).take 3) =
        some (some [0x06, 0x03, 0x01]) := by decide +kernel

/-- R170's table: the three markers and a PHASE byte of 6. -/
theorem test_markers :
    parseMarker [1, 0x03, 0x50, 0x00, 0x01, 0x59, 0xB4] = some (.cycleStart 0x0350 88500) ∧
      parseMarker [2, 5] = some (.phase .ret) ∧ parseMarker [3] = some .cycleEnd ∧ parseMarker [2, 6] = none := by
  decide +kernel

/-- R162's and section 9.8's ranges: first 3, last 20 is cut to zones 3-10; first 8, last 15 is eight zones. -/
theorem test_zone_ranges :
    zoneRange 3 (rangeLast 3 20) = [3, 4, 5, 6, 7, 8, 9, 10] ∧ (zoneRange 8 (rangeLast 8 200)).length = 8 ∧
      zoneRange 5 (rangeLast 5 2) = [5] := by decide +kernel

/-! ### Time and stroke (chapter 2) -/

/-- R20's table at tick 2,030,000, and the case shortly after a reset. -/
theorem test_stamp_extension :
    extendStamp 2030000 63900 = 2029980 ∧ extendStamp 2030000 63920 = 2030000 ∧ extendStamp 2030000 64000 = 1964544 ∧
      extendStamp 1000 65000 = 4294966760 := by decide +kernel

/-- R18: the counter wraps. -/
theorem test_tick_wraps : after (exec .tick { State.reset with tick := 4294967295 }) (·.tick) = some 0 := by decide +kernel

/-- The history of the example of section 2.2.1, at tick t. -/
def stroked (t : Tick) : State :=
  { State.reset with
    tick := t, lastStroke := some 100832, strokes := [⟨100000, none⟩, ⟨100832, some 832⟩] }

/-- The edge at 100,990 is a bounce; the edge at 101,660 enters with period 828; the edge at 101,232 is accepted (R21). -/
theorem test_stroke_edges :
    after (exec .strokeEdge (stroked 100990)) (fun t => (t.cnt.strokeBounces, t.strokes.length)) = some (1, 2) ∧
      after (exec .strokeEdge (stroked 101660)) (fun t => t.strokes.getLast?) = some (some ⟨101660, some 828⟩) ∧
      after (exec .strokeEdge (stroked 101232)) (·.lastStroke) = some (some 101232) := by decide +kernel

/-- Section 2.2.1's lookups. -/
theorem test_stroke_angles :
    let s : State := { stroked 101660 with strokes := (stroked 101660).strokes ++ [⟨101660, some 828⟩] }
    angleAt s 99950 = none ∧ angleAt s 100400 = none ∧ angleAt s 100832 = some 0 ∧ angleAt s 101100 = some 82 ∧
      angleAt s 101600 = some 236 ∧ angleAt s 101659 = some 254 ∧ angleAt s 101660 = some 0 := by decide +kernel

/-- The log of the example of section 2.5. -/
def log25 : List PhaseEntry :=
  [⟨.fill, 1201500⟩, ⟨.previb, 1260000⟩, ⟨.mainvib, 1290000⟩, ⟨.strip, 1700000⟩, ⟨.ret, 1760000⟩]

/-- Section 2.5: phases and classes of samples while the cycle is CLOSING. -/
theorem test_phases_and_classes :
    let s : State :=
      { opened 88500 1200000 log25 (loaded 1800000 (profile 0x0350 [])) with
        cycle := some { cycleAt 88500 (some 2) 1200000 log25 with endTick := some 1800000, closingEntry := some 1800000 } }
    sampleClass s 1199999 = .outside ∧ sampleClass s 1200500 = .inWindow ∧ phaseAt log25 1200500 = .none ∧
      phaseAt log25 1289999 = .previb ∧ phaseAt log25 1290000 = .mainvib ∧ phaseAt log25 1799999 = .ret ∧
      sampleClass s 1799999 = .inWindow ∧ sampleClass s 1800000 = .outside := by decide +kernel

/-! ### Intake and detection (chapters 3, 4 and 8) -/

/-- Sixteen equal samples of value 0 with a stamp, as two run items. -/
def quiet (stamp : Stamp) : List Byte := bytes16 stamp ++ [0xF0, 0, 0xF0, 0]

/-- Channel 5 of the example of section 3.4, at tick t, expecting tick e. -/
def stamped (t e : Tick) : State :=
  (live 5 (e - 1) 400000 { State.reset with tick := t }).updChan 5 fun ch => { ch with lastStamp := some (e - 16) }

/-- Rows 1 and 2 of section 3.4: in sequence, and a gap of 32. -/
theorem test_stamps_accepted :
    after (exec (.sampleFrame 5 (quiet 6800)) (stamped 400040 400016)) (fun t => ((t.chan 5).expected, (t.chan 5).cnt.missing)) =
        some (some 400032, 0) ∧
      after (exec (.sampleFrame 5 (quiet 6848)) (stamped 400080 400032))
          (fun t => ((t.chan 5).expected, (t.chan 5).cnt.missing)) =
        some (some 400080, 32) := by decide +kernel

/-- Rows 3 and 4 of section 3.4: an old frame, and one not wholly due. -/
theorem test_stamps_stale :
    after (exec (.sampleFrame 5 (quiet 6832)) (stamped 400090 400080)) (fun t => ((t.chan 5).expected, (t.chan 5).cnt.stale)) =
        some (some 400080, 1) ∧
      after (exec (.sampleFrame 5 (quiet 6864)) (stamped 400090 400080)) (fun t => (t.chan 5).cnt.stale) = some 1 := by
  decide +kernel

/-- The state of the example of section 4.4.1, with channel 3 forwarding as in section 8.1.1. -/
def hitState : State :=
  let s := opened 88500 1400000 [⟨.mainvib, 1490000⟩] (loaded 1500020 (profile 0x0350 []))
  (live 3 1499999 1499999 { s with strokes := [⟨1499700, some 832⟩], lastStroke := some 1499700, paused := true }).updChan 3
    fun ch =>
      { ch with
        floorTrack := true, floor := 180, policy := .aroundHits, pre := 2, post := 3
        preQueue := [⟨[1], false⟩, ⟨[2], false⟩] }

/-- Section 4.4.1: the hit's record, the dead-time end tick, the settled tick and the counter. -/
theorem test_hit_of_one_frame :
    after (exec (.sampleFrame 3 hitPayload) hitState)
        (fun t => (t.hits, (t.chan 3).sigma, (t.chan 3).deadTime, (t.chan 3).det, (t.chan 3).cnt.hitsClosed)) =
      some
        ([], some 1500015, some ⟨1500012, 1500016⟩, .dead, 1) ∧
      after (exec (.sampleFrame 3 hitPayload) (live 2 1400000 0 hitState)) (·.hits) =
        some [⟨3, 88500, 1500006, 6, 2450, 2, 6450, .mainvib, some 94, false, false, false⟩] := by decide +kernel

/-- Section 8.1.1, first row: the queue is flushed, then the frame enters with HIT_START and IN_HIT. -/
theorem test_forwarding_flush :
    after (exec (.sampleFrame 3 hitPayload) hitState)
        (fun t => (t.sampleLane, (t.chan 3).preQueue, (t.chan 3).postRemaining)) =
      some
        ([⟨3, [1], false, false, false, false⟩, ⟨3, [2], false, false, false, false⟩,
          ⟨3, hitPayload, true, true, false, false⟩], [], 3) := by decide +kernel

/-- Section 3.7: the block's 256th sample sets the floor to (46,208 + 128) / 256 = 181, and with a cycle open does not. -/
theorem test_floor_block :
    let ch : Channel := { Channel.reset with floorTrack := true, floor := 176, floorSum := 46208 - 180, floorCount := 255 }
    (ch.floorSample true 180).floor = 181 ∧ (ch.floorSample true 180).floorCount = 0 ∧
      (ch.floorSample false 180).floor = 176 := by decide +kernel

/-- The gap of the example of section 3.4, ticks 400,032 to 400,063, with a cycle from tick a that ends at tick e: its SINGLE zone
on channel 5 is blind exactly when the gap takes a tick of the window, and a window of no tick has none (R54). -/
theorem test_gap_and_window :
    let blind (a : Tick) (e : Option Tick) :=
      let s := opened 1 a [] (loaded 400080 (profile 0x0350 [(0, ⟨wide (.single 5), ⟨.clear, 0, 0, none, none⟩⟩)]))
      ((takeGap 5 32 400064
        ({ live 5 400031 0 s with cycle := s.cycle.map fun cy => { cy with endTick := e, closingEntry := e } })).cycle.map
          (·.blind))
    blind 400063 none = some [0] ∧ blind 400064 none = some [] ∧ blind 400000 (some 400032) = some [] ∧
      blind 400000 (some 400033) = some [0] ∧ blind 400050 (some 400050) = some [] ∧
      blind 400050 (some 400051) = some [0] := by decide +kernel

/-! ### Assembly and evaluation (chapters 5 and 6) -/

/-- Zones 0 and 1 of the gating example. -/
def gate0 : ZoneDef :=
  { wide (.pair 1 4 2 12) with
    phaseMask := 0b001100, gateLo := 40, gateHi := 120, requirePhase := true, minArea := 2000, leakShift := 3
    watchLevel := 3000, watchHyst := 500, tripLevel := 8000, tripCycles := 3, watchAction := ⟨.alert, false⟩
    crackAction := ⟨.holdAtEnd, false⟩ }
def gate1 : ZoneDef :=
  { wide (.pair 1 2 (-6) 6) with
    phaseMask := 0b001000, gateLo := 200, gateHi := 30, countLimit := 2, watchLevel := 5000, watchHyst := 1000
    tripLevel := 12000, tripCycles := 4 }

/-- The rows of the gating example (R91). -/
theorem test_gating :
    scores gate0 .mainvib 5700 (some 52) = true ∧ scores gate0 .previb 8000 none = false ∧
      scores gate0 .mainvib 1999 (some 60) = false ∧ scores gate0 .strip 9000 (some 80) = false ∧
      scores gate1 .mainvib 300 (some 210) = true ∧ scores gate1 .mainvib 300 (some 30) = true ∧
      scores gate1 .mainvib 300 (some 31) = false ∧ scores gate1 .mainvib 300 none = true ∧
      scores gate1 .previb 300 (some 10) = false := by decide +kernel

/-- Zones 2 and 3 of section 5.6, and the four zones of section 6.10 with their runtimes. -/
def zones610 : List (ZoneIx × Zone) :=
  [(0, ⟨gate0, ⟨.clear, 2400, 1, none, none⟩⟩), (1, ⟨gate1, ⟨.watch, 3900, 0, none, none⟩⟩),
    (2,
      ⟨{ wide (.single 4) with
          phaseMask := 0b001000, requirePhase := true, minArea := 5000, areaShift := 5, leakShift := 2, watchLevel := 10000
          tripLevel := 20000, tripCycles := 2 },
        ⟨.clear, 3, 0, none, none⟩⟩),
    (3,
      ⟨{ wide (.single 1) with
          countLimit := 3, areaShift := 2, leakShift := 5, watchLevel := 40000, watchHyst := 5000
          crackAction := ⟨.reject, true⟩ },
        ⟨.crack, 52000, 0, some 88310, none⟩⟩)]

/-- The cycle of sections 5.6 and 6.10, open in slot 2. -/
def burst (t : Tick) : State := opened 88500 1900000 [⟨.mainvib, 1900000⟩] (loaded t (profile 0x0350 zones610))

/-- Section 5.6: hit B waits, and the arrival of A resolves B with A as one PAIR event of delta 5 in zone 0. -/
theorem test_burst_pair :
    let b : Hit := ⟨1, 88500, 2000100, 9, 1900, 0, 2600, .mainvib, some 52, false, false, false⟩
    let a : Hit := ⟨4, 88500, 2000105, 8, 1400, 0, 3100, .mainvib, some 61, false, false, false⟩
    let t := joinList a { live 1 2000111 0 (live 2 2000127 0 (live 4 2000127 0 (burst 2000130))) with hits := [b] }
    t.hits = [] ∧ t.cycle.map (fun cy => (cy.counts.pairEvents, cy.tallies[(0 : ZoneIx)])) = some (1, ⟨1, 0, 5700⟩) ∧
      (findPair b [a] (zonesInUse (burst 2000130))).map (fun r => (r.1, r.2.2.2)) = some (0, 5) := by decide +kernel

/-- The arithmetic of one zone, before the close of cycle 51,200 and for the two cycles after it. -/
theorem test_zone_arithmetic :
    let d : ZoneDef :=
      { wide (.single 0) with
        leakShift := 4, areaShift := 6, countLimit := 4, tripCycles := 3, watchLevel := 20000, watchHyst := 2000
        tripLevel := 40000 }
    evaluateZone d ⟨.watch, 30000, 1, none, none⟩ ⟨5, 0, 412350⟩ false 51200 = ⟨.watch, 34567, 2, none, some 51200⟩ ∧
      evaluateZone d ⟨.watch, 34567, 2, none, none⟩ ⟨4, 0, 300000⟩ false 51201 =
        ⟨.crack, 37094, 3, some 51201, some 51201⟩ ∧
      evaluateZone d ⟨.crack, 37094, 3, some 51201, none⟩ ⟨0, 0, 0⟩ false 51202 =
        ⟨.crack, 34776, 0, some 51201, some 51202⟩ ∧
      evaluateZone d ⟨.watch, 19097, 0, none, none⟩ ⟨0, 0, 0⟩ false 8 = ⟨.clear, 17904, 0, none, some 8⟩ := by decide +kernel

/-- Section 6.10: the close of cycle 88,500 as a CYCLE_END that finds every channel settled. -/
def close610 : State :=
  let s := burst 2100000
  { s with
    paused := true
    cycle := s.cycle.map fun cy =>
      { cy with
        blind := [1]
        tallies := (((cy.tallies.set 0 ⟨1, 0, 5700⟩).set 2 ⟨0, 1, 0⟩).set 3 ⟨1, 0, 900⟩)
        counts := ⟨6, 1, 2, 1, 1⟩ } }

theorem test_close_of_four_zones :
    after (exec .cycleEnd close610)
        (fun t => (allZones.map fun z => (t.zone? 2 z).map fun r => (r.rt.state, r.rt.evidence, r.rt.count)).take 5) =
      some
        [some (.watch, 2456, 2), some (.watch, 3900, 0), some (.clear, 3, 0), some (.crack, 50600, 0), none] := by
  decide +kernel

theorem test_close_marks :
    after (exec .cycleEnd close610) (fun t => ((t.slot 2).inUse, (t.slot 2).profile.map fun p => p.cycleCount)) =
        some (false, some 413) ∧
      after (exec .cycleEnd close610) (fun t => (t.cycle.isNone, t.news.zoneAlerts, t.news.lastZone)) =
        some (true, 2, some ⟨2, 3, .crack⟩) := by decide +kernel

/-- The same close's report: flags byte 0x20, slot byte 2, 65 bytes, and zone entries that end in 0x09 and 0x41 (R173). -/
theorem test_report_bytes :
    after (exec .cycleEnd close610)
        (fun t =>
          t.controlLane.map fun f =>
            match f with
            | .cycle r => (r.payload.length, (r.payload.drop 6).take 2, r.payload[37]?, r.payload[46]?)
            | _ => (0, [], none, none)) =
      some [(65, [2, 0x20], some 0x09, some 0x41)] := by decide +kernel

/-! ### Faults, holds and egress (chapters 7 and 8) -/

/-- Section 7.7: a STROKE_LOST rise with HOLD_NOW holds until 2,500,000, and step 6 of the close moves identifier 32. -/
theorem test_hold_example :
    let s : State :=
      { State.reset with
        tick := 2400000, cfg := { State.reset.cfg with holdMs := 2000 }
        classes := State.reset.classes.set 1 { State.reset.classes[1] with action := .holdNow } }
    (setCond clsStrokeLost true s).holdSet = [129] ∧ (setCond clsStrokeLost true s).holdExpiry = some 2500000 ∧
      (closeNotice { s with tick := 2450000, holdSet := [129], pendingHold := [32] }).holdSet = [32, 129] ∧
      (closeNotice { s with tick := 2450000, holdSet := [129], pendingHold := [32] }).holdExpiry = some 2550000 := by
  decide +kernel

/-- Section 10.7's second ALERT frame of that example. -/
theorem test_alert_bytes :
    AlertContents.payload ⟨0x00, 0x42, 0x42, true, 2, 1, some ⟨2, 0, .crack⟩⟩ =
      [0x00, 0x42, 0x42, 0x01, 2, 1, 0x02, 0x00, 0x02] := by decide +kernel

/-- A PAUSED line with n frames in the control lane. -/
def laneOf (n : Nat) : State := { State.reset with paused := true, controlLane := List.replicate n (.head []) }

/-- Section 8.4.1: a relayed frame enters while five entries are free, and is dropped at four. -/
theorem test_event_reserve :
    after (exec (.headFrameRelay [7]) (laneOf 11)) (·.controlLane.length) = some 12 ∧
      after (exec (.headFrameRelay [7]) (laneOf 12)) (fun t => (t.controlLane.length, t.cnt.headRelayDrops)) =
        some (12, 1) := by decide +kernel

/-! ### Requests (chapters 1, 9 and 11) -/

/-- The slots of section 1.7. -/
def renameState : State :=
  let zone (rt : Runtime) : Zone := ⟨wide (.single 0), rt⟩
  { loaded 0 (profile 0x0341 [(1, zone ⟨.watch, 24100, 1, none, none⟩), (3, zone ⟨.crack, 41877, 3, some 88412, some 9⟩)]) with
    slots := ((State.reset.slots.set 2
      ⟨some (profile 0x0341 [(1, zone ⟨.watch, 24100, 1, none, none⟩), (3, zone ⟨.crack, 41877, 3, some 88412, some 9⟩)]),
        false⟩).set 5 ⟨some (profile 0x0342 []), false⟩) }

/-- The status of the first RESPONSE that a command makes. -/
def statusAfter (i : Instr) (s : State) : Option Status :=
  match exec i s with
  | .next t =>
    match t.tx with
    | some (.control (.response r)) => some r.status
    | _ => none
  | _ => none

/-- Steps 1 to 3 of section 1.7. -/
theorem test_renaming :
    statusAfter (.writeSlotHeader 0 2 0x0350) renameState = some .zoneLatched ∧
      statusAfter (.writeSlotHeader 0 2 0x0342) renameState = some .zoneLatched ∧
      after (exec (.ackZone 0 2 3) renameState) (fun t => (t.zone? 2 3).map (·.rt)) =
        some (some ⟨.clear, 0, 0, none, some 9⟩) := by decide +kernel

/-- Section 9.8: a fifth request is dropped, and at RESUME the first is taken. -/
theorem test_request_queue :
    let full : State := { laneOf 16 with requests := List.replicate 4 ⟨1, .start⟩ }
    after (exec (.readCounters 5 0) full) (fun t => (t.requests.length, t.cnt.requestsDropped, t.classes[clsOverflow].sticky)) =
        some (4, 1, true) ∧
      after (exec .resume full) (fun t => (t.requests.length, t.controlLane.length, t.run)) = some (3, 16, .running) := by
  decide +kernel

/-- Section 11.1: INJECT_HIT with offsets 24 and 255 behind a settled tick of 3,101,030. -/
theorem test_inject_hit :
    let s := live 1 3101030 0 (opened 7 3000000 [] (loaded 3101040 (profile 0x0350 [])))
    after (exec (.injectHit 0 1 24 5 1500 3000) (live 2 3000000 0 s)) (fun t => t.hits.map (·.start)) = some [3101006] ∧
      after (exec (.injectHit 0 1 255 5 1500 3000) (live 2 3000000 0 s)) (fun t => t.hits.map (·.start)) = some [3100775] := by
  decide +kernel

/-! ### Witnesses: a state and operands that meet the hypotheses of each statement, one conjunct for each clause -/

/-- Some outcome is a next state. -/
def goesOn (o : Host.Outcome State Fault Refusal) : Bool := (after o fun _ => ()).isSome

/-- The burst's cycle IDLE, with a command that waits. -/
def waiting (c : Instr) (s : State) : State := { s with pending := [c] }

theorem witness_StepTakesFront :
    (waiting .tick State.reset).pending = .tick :: [] ∧ State.reset.pending = [] := by decide +kernel

theorem witness_ExecKeepsQueue : goesOn (exec .cycleEnd (waiting .tick close610)) = true := by decide +kernel

theorem witness_ResetsComplete :
    ({ close610 with nrstLow := true } : State).nrstLow = true ∧ Instr.tick ≠ .powerOnReset ∧ Instr.tick ≠ .pinReset ∧
      Instr.tick ≠ .nrstRelease := by decide +kernel

theorem witness_CapacitiesKept :
    CapacityInv (waiting .cycleEnd close610) ∧ ConfigInv (waiting .cycleEnd close610) ∧
      goesOn (step (waiting .cycleEnd close610)) = true := by
  refine ⟨⟨by decide, by decide, by decide, by decide, by decide, by decide, ?_⟩, ?_, by decide +kernel⟩
  · intro cy h; cases h; decide
  · constructor <;> decide

theorem witness_QuietKept :
    QuietInv (waiting .cycleEnd close610) ∧ goesOn (step (waiting .cycleEnd close610)) = true := by
  refine ⟨⟨rfl, rfl, fun _ h => absurd h (by decide), fun h => absurd rfl h, fun _ => rfl⟩, by decide +kernel⟩

/-- A DEFINED zone in CRACK, in slot 2 that a cycle has in use. -/
def crackZone : Zone := ⟨wide (.pair 0 1 (-127) 127), ⟨.crack, 65535, 8, some 7, some 7⟩⟩
def tableState : State := waiting .cycleEnd (opened 8 100 [] (loaded 200 (profile 0x0350 [(15, crackZone)])))

theorem witness_TableKept : TableInv tableState ∧ goesOn (step tableState) = true := by
  have hz : ∀ k z, tableState.zone? k z = none ∨ tableState.zone? k z = some crackZone := by decide +kernel
  refine ⟨⟨by decide +kernel, by decide +kernel, by decide +kernel, by decide +kernel, ?_⟩, by decide +kernel⟩
  intro k z r h
  rcases hz k z with e | e <;> rw [e] at h <;> cases h
  refine ⟨⟨?_, by decide, by decide, by decide, by decide, by decide, by decide⟩, by decide, by decide, by decide⟩
  intro x y lo hi e
  cases e
  decide

theorem witness_ChannelsKept :
    ChannelInv (waiting (.lossTimeout 3) hitState) ∧ goesOn (step (waiting (.lossTimeout 3) hitState)) = true := by
  refine ⟨⟨fun c => ?_, by decide +kernel⟩, by decide +kernel⟩
  refine ⟨?_, ?_, ?_, ?_, ?_, ?_, ?_, ?_, ?_, ?_, ?_⟩ <;> revert c <;> decide +kernel

theorem witness_HoldsKept :
    HoldInv { waiting .holdTimerExpiry close610 with holdSet := [0, 135], pendingHold := [35], holdExpiry := some 5 } ∧
      goesOn (step (waiting .holdTimerExpiry close610)) = true := by
  refine ⟨?_, by decide +kernel⟩
  constructor <;> decide +kernel

theorem witness_CrackLatched :
    close610.requests = [] ∧ mayUnlatch .cycleEnd = false ∧
      (close610.zone? 2 3).map (fun r => r.rt.state) = some .crack ∧ goesOn (exec .cycleEnd close610) = true := by
  decide +kernel

/-- Two hits of one start wait, on channels 1 and 4, and channel 3 has a hit open. -/
def assembling : State :=
  { hitState.updChan 3 fun ch =>
      { ch with
        det := .inHit, sigma := some 1499989
        openHit := some ⟨88500, 1499990, .mainvib, 10, 900, 1499992, 5000, 180, 580, 430⟩ } with
    hits :=
      [⟨1, 88500, 1499980, 9, 1900, 0, 2600, .mainvib, none, false, false, false⟩,
        ⟨4, 88500, 1499980, 8, 1400, 0, 3100, .mainvib, none, false, false, false⟩] }

theorem witness_AccountingKept :
    (Accounted close610 ∧ (close610.cycle = none → close610.hits = []) ∧ goesOn (exec .cycleEnd close610) = true) ∧
      HitsInv assembling ∧ ChannelInv assembling ∧ Recent assembling ∧
      goesOn (exec (.lossTimeout 3) assembling) = true := by
  refine ⟨⟨?_, fun _ => rfl, by decide +kernel⟩, ?_, ⟨fun c => ?_, by decide +kernel⟩, ?_, by decide +kernel⟩
  · intro cy h _
    cases h
    decide
  · exact ⟨fun h => absurd h (by decide +kernel), by decide +kernel, by decide +kernel, by decide +kernel⟩
  · refine ⟨?_, ?_, ?_, ?_, ?_, ?_, ?_, ?_, ?_, ?_, ?_⟩ <;> revert c <;> decide +kernel
  · have hs : ∀ c, (assembling.chan c).sigma = none ∨ (assembling.chan c).sigma = some 1499989 := by decide +kernel
    refine ⟨by decide +kernel, ?_, ?_, by decide +kernel⟩
    · intro cy h e he
      cases h
      cases he
    · intro c g h
      rcases hs c with e | e <;> rw [e] at h <;> cases h
      decide +kernel

theorem witness_RequestRoundTrip : Request.isMalformed (.setConfig (.maxCycleTicks 0 50000)) = false := by decide +kernel

theorem witness_FrameLayouts :
    FrameEnd.overlong ≠ .endDelimiter ∧ (⟨3, ⟨1, 0, 900⟩, 50600, .crack, 8, true⟩ : ZoneEntry).count < 16 := by decide

theorem witness_SamplePayloads :
    decodeSamples (quiet 5) = some (5, List.replicate 16 0) ∧ (List.replicate 16 4095).length = 16 ∧
      ∀ v ∈ List.replicate 16 4095, v ≤ 4095 := by decide +kernel

/-- Due to the tick, and one tick short. -/
theorem witness_TickAndExpiries :
    let s : State :=
      { State.reset with
        tick := 65536, lastStroke := some 0, horizon := some 1, holdExpiry := some 65536, rejectExpiry := some 65537 }
    s.nrstLow = false ∧ s.lastStroke = some 0 ∧ s.horizon = some 1 ∧ s.holdExpiry = some 65536 ∧
      s.rejectExpiry = some 65537 ∧ State.reset.lastStroke = none ∧ State.reset.horizon = none ∧
      State.reset.holdExpiry = none ∧ State.reset.rejectExpiry = none := by decide +kernel

theorem witness_StampExtended : (2029980 : Tick).setWidth 16 = (63900 : Stamp) := by decide +kernel

/-- An edge 399 ticks after the last accepted one, one 400 ticks after it, and one with none held. -/
theorem witness_StrokeEdges :
    ((stroked 101231).lastStroke = some 100832 ∧ ((stroked 101231).tick - 100832).toInt < (stroked 101231).cfg.strokeMin) ∧
      ((stroked 101232).lastStroke = some 100832 ∧
        ((stroked 101232).cfg.strokeMin : Int) ≤ ((stroked 101232).tick - 100832).toInt) ∧
      State.reset.lastStroke = none := by decide +kernel

theorem witness_StrokeAngle :
    ((stroked 101660).strokes = [⟨100000, none⟩] ++ ⟨100832, some 832⟩ :: [] ∧ 0 ≤ ((100832 : Tick) - 100832).toInt) ∧
      ∀ x ∈ (stroked 101660).strokes, ((99999 : Tick) - x.tick).toInt < 0 := by decide +kernel

/-- A run of two VIB phases behind FILL, another phase, an empty log, and no cycle. -/
theorem witness_StrokeLostRises :
    let log : List PhaseEntry := [⟨.fill, 10⟩] ++ ⟨.previb, 20⟩ :: [⟨.mainvib, 30⟩]
    (∀ x ∈ ([⟨.fill, 10⟩] : List PhaseEntry).getLast?, x.phase ≠ .previb ∧ x.phase ≠ .mainvib) ∧
      (∀ x ∈ (⟨.previb, 20⟩ :: [⟨.mainvib, 30⟩] : List PhaseEntry), x.phase = .previb ∨ x.phase = .mainvib) ∧
      (opened 1 5 log (loaded 2021 (profile 5 []))).cycle = some (cycleAt 1 (some 2) 5 log) ∧
      (cycleAt 1 none 5 [⟨.strip, 10⟩]).log.getLast? = some ⟨.strip, 10⟩ ∧ (cycleAt 1 none 5 []).log = [] ∧
      State.reset.cycle = none := by decide +kernel

theorem witness_FaultTransitions :
    let live : State := { State.reset with classes := State.reset.classes.set 3 { State.reset.classes[3] with cond := true } }
    (State.reset.classes[3].forced = false ∧ State.reset.classes[3].cond = false) ∧
      (live.classes[3].forced = false ∧ live.classes[3].cond = true) ∧ State.reset.alert = .idle ∧
      ({ State.reset with alert := .pending } : State).alert = .pending ∧
      ({ State.reset with alert := .sending } : State).alert = .sending ∧
      (let forced : State := { State.reset with classes := State.reset.classes.set 3 { State.reset.classes[3] with forced := true } }
      forced.classes[3].forced = true ∧ forced.classes[3].cond = false) := by decide +kernel

theorem witness_FaultActions : State.reset.cycle = none ∧ close610.cycle ≠ none := by decide +kernel

theorem witness_ArbiterChoice :
    (laneOf 1).paused = true ∧
      (let s : State := { laneOf 1 with paused := false }
      s.deferred = false ∧ s.paused = false ∧ s.tx = none ∧ s.alert ≠ .pending ∧ s.controlLane = .head [] :: []) ∧
      (let s : State := { State.reset with alert := .pending }
      s.deferred = false ∧ s.paused = false ∧ s.tx = none ∧ s.alert = .pending) ∧
      (let s : State := { State.reset with sampleLane := [⟨0, [], false, false, false, false⟩] }
      s.controlLane = [] ∧ s.sampleLane = ⟨0, [], false, false, false, false⟩ :: []) ∧
      State.reset.controlLane = [] ∧ State.reset.sampleLane = [] := by decide +kernel

theorem witness_TransmitterCommands :
    State.reset.nrstLow = false ∧ State.reset.tx = none ∧
      ({ State.reset with tx := some (.alert (alertContents State.reset)) } : State).tx =
        some (.alert (alertContents State.reset)) ∧
      ({ State.reset with tx := some (.control (.head [])) } : State).tx = some (.control (.head [])) ∧
      ({ State.reset with tx := some (.sample ⟨0, [], false, false, false, false⟩) } : State).tx =
        some (.sample ⟨0, [], false, false, false, false⟩) := by decide +kernel

theorem witness_ManagementTest :
    State.reset.requests = [] ∧ (laneOf 16).controlFree = 0 ∧
      (let s : State := { laneOf 15 with requests := [⟨1, .start⟩] }
      s.requests = ⟨1, .start⟩ :: [] ∧ s.controlFree ≠ 0) := by decide +kernel

theorem witness_LaneOffers :
    (laneOf 15).controlFill < 16 ∧ 16 ≤ (laneOf 16).controlFill ∧ State.reset.sampleLane.length < 64 ∧
      64 ≤ ({ State.reset with
        sampleLane := List.replicate 64 ⟨0, [], false, false, false, false⟩ } : State).sampleLane.length ∧
      (let s (n : Nat) : State := { laneOf n with cfg := { State.reset.cfg with eventReports := true } }
      (s 11).cfg.eventReports = true ∧ (s 11).controlFill ≤ 11 ∧ 11 < (s 12).controlFill ∧
        State.reset.cfg.eventReports = false) ∧
      (State.reset.chan 0).policy = .drop ∧ (hitState.chan 3).policy = .aroundHits ∧
      ((hitState.updChan 3 fun ch => { ch with policy := .all }).chan 3).policy = .all := by decide +kernel

theorem witness_HeadFrames :
    (List.replicate 250 (0 : Byte)).length ≤ 250 ∧ (laneOf 11).controlFill ≤ 11 ∧ 11 < (laneOf 12).controlFill ∧
      (let s : State := { State.reset with headBound := List.replicate 3 ⟨0, []⟩, headTx := some ⟨1, []⟩ }
      s.headBound.length < 4 ∧ s.headTx ≠ none ∧ s.headBound = ⟨0, []⟩ :: List.replicate 2 ⟨0, []⟩) ∧
      (State.reset.headBound = [] ∧ State.reset.headTx = none) ∧
      (let s : State := { State.reset with headBound := List.replicate 4 ⟨0, []⟩ }
      4 ≤ s.headBound.length ∧ s.headTx = none) := by decide +kernel

/-- A frame cut by a link symbol; a frame for another address; a marker of no code. -/
theorem witness_BadFrames :
    State.reset.nrstLow = false ∧ isBadFrame [0x20] .linkSymbol = true ∧ isBadFrame (List.replicate 256 0) .overlong = true ∧
      wellFormed (.headLinkMisaddressed 0x08 1 []) = true ∧ wellFormed (.lineLinkMisaddressed 0x21 2 []) = true ∧
      wellFormed (.markerFormatError [4]) = true := by decide +kernel

/-- A format error, an OFF channel, and the three stale cases at their bounds. -/
theorem witness_SampleFramesDropped :
    decodeSamples [] = none ∧ (quiet 6816).length ≤ 250 ∧ decodeSamples (quiet 6816) = some (6816, List.replicate 16 0) ∧
      (State.reset.chan 5).intake = .off ∧ ((stamped 400031 400016).chan 5).intake ≠ .off ∧
      0 ≤ (extendStamp 400031 6800 + 15 - (400031 : Tick)).toInt ∧
      (((stamped 400080 400016).chan 5).lastStamp = some 400000 ∧ ((400080 : Tick) - 400000).toInt < 65536 ∧
        0 ≤ ((400000 : Tick) - extendStamp 400080 6784).toInt) ∧
      (((stamped 400080 400016).chan 5).expected = some 400016 ∧
        32768 ≤ ((39568 : Stamp) - (400016 : Tick).setWidth 16).toNat) := by decide +kernel

/-- None of R52's three tests holds of the stamp, as the statement spells them, with the last accepted stamp and the expected
tick given. -/
def freshStamp (s : State) (c : Chan) (l x : Option Tick) (stamp : Stamp) : Bool :=
  let e := extendStamp s.tick stamp
  (s.chan c).lastStamp == l && (s.chan c).expected == x && decide ((e + 15 - s.tick).toInt < 0) &&
    l.all (fun l => decide ((l - e).toInt < 0)) && x.all fun x => decide ((stamp - x.setWidth 16).toNat < 32768)

theorem freshStamp_meets_none {s : State} {c : Chan} {l x : Option Tick} {stamp : Stamp}
    (h : freshStamp s c l x stamp = true) :
    let e := extendStamp s.tick stamp
    ¬(0 ≤ (e + 15 - s.tick).toInt ∨
        (∃ l, (s.chan c).lastStamp = some l ∧ 0 ≤ (s.tick - l).toInt ∧ (s.tick - l).toInt < 65536 ∧ 0 ≤ (l - e).toInt) ∨
        ((s.chan c).intake = .live ∧ ∃ x, (s.chan c).expected = some x ∧ 32768 ≤ (stamp - x.setWidth 16).toNat)) := by
  simp only [freshStamp, Bool.and_eq_true, beq_iff_eq, decide_eq_true_eq] at h
  obtain ⟨⟨⟨⟨rfl, rfl⟩, hd⟩, hl⟩, hx⟩ := h
  rintro _ (h | ⟨l, hs, -, -, h⟩ | ⟨-, x, hs, h⟩)
  · exact absurd h (Int.not_le.mpr hd)
  · simp only [hs, Option.all_some, decide_eq_true_eq] at hl; exact absurd h (Int.not_le.mpr hl)
  · simp only [hs, Option.all_some, decide_eq_true_eq] at hx; omega

/-- In sequence; a gap; a gap of 32,767, whose last sample lies one tick before the current tick; and the first frame of a
WAITING channel. -/
theorem witness_SampleFrameAccepted :
    (decodeSamples (quiet 6800) = some (6800, List.replicate 16 0) ∧ ((stamped 400040 400016).chan 5).intake ≠ .off ∧
        freshStamp (stamped 400040 400016) 5 (some 400000) (some 400016) 6800 = true) ∧
      freshStamp (stamped 400080 400032) 5 (some 400016) (some 400032) 6848 = true ∧
      (freshStamp (stamped 432799 400016) 5 (some 400000) (some 400016) 39567 = true ∧
        ((39567 : Stamp) - (400016 : Tick).setWidth 16).toNat = 32767 ∧ extendStamp 432799 39567 + 15 = 432798) ∧
      (let s : State := { State.reset with tick := 16 }.updChan 0 fun ch => { ch with intake := .waiting }
      (s.chan 0).intake ≠ .off ∧ freshStamp s 0 none none 0 = true) ∧
      (assembling.chan 3).expected = some 1500000 ∧ assembling.cycle ≠ none := by decide +kernel

/-- R52: the frame of a gap of 32,767 is accepted, and one at 32,768 is stale. -/
theorem test_longest_gap :
    after (exec (.sampleFrame 5 (quiet 39567)) (stamped 432799 400016)) (fun t => (t.chan 5).cnt.missing) = some 32767 ∧
      after (exec (.sampleFrame 5 (quiet 39568)) (stamped 432800 400016)) (fun t => (t.chan 5).cnt.stale) = some 1 := by
  decide +kernel

theorem witness_PhaseAndClass :
    0 ≤ ((1290000 : Tick) - 1290000).toInt ∧ (∀ x ∈ log25.drop 3, ((1290000 : Tick) - x.tick).toInt < 0) ∧
      ∀ x ∈ log25, ((1201499 : Tick) - x.tick).toInt < 0 := by decide +kernel

/-- No hit open and blocked; dead, below and at the opening threshold of 580; an open hit at each of its ends; a tracked and an
untracked channel, one sample short of a block and at its end. -/
theorem witness_DetectorAndFloor :
    ((hitState.chan 3).openHit = none ∧ State.reset.run = .stopped) ∧
      (hitState.run = .running ∧ hitState.cycle = some (cycleAt 88500 (some 2) 1400000 [⟨.mainvib, 1490000⟩]) ∧
        (hitState.slot 2).profile = some (profile 0x0350 []) ∧ (hitState.chan 3).deadTime = none ∧
        579 < min 4095 ((hitState.chan 3).floor + 400) ∧ min 4095 ((hitState.chan 3).floor + 400) ≤ 580) ∧
      (let d : DeadTime := ⟨1500012, 1500016⟩
      0 < ((1500016 : Tick) - d.closed).toInt ∧ 0 ≤ (d.endTick - (1500016 : Tick)).toInt) ∧
      (let o : OpenHit := ⟨1, 0, .mainvib, 254, 600, 0, 100, 180, 580, 430⟩
      ((hitState.updChan 3 fun ch => { ch with openHit := some o }).chan 3).openHit = some o ∧ 429 < o.thrOff ∧
          o.thrOff ≤ 430 ∧ 255 ≤ o.duration + 1) ∧
      (State.reset.chan 0).floorTrack = false ∧ (hitState.chan 3).floorTrack = true ∧
      (hitState.chan 3).floorCount + 1 < 256 ∧
      256 ≤ ((hitState.updChan 3 fun ch => { ch with floorCount := 255 }).chan 3).floorCount + 1 := by decide +kernel

/-- One tick before the loss timer runs out, at it, and a channel that is not LIVE. -/
theorem witness_ChannelLoss :
    let s (t : Tick) : State := live 0 10 100 { State.reset with tick := t }
    ((s 2599).nrstLow = false ∧ ((s 2599).chan 0).intake = .live ∧ ((s 2599).chan 0).lossFrom = some 100) ∧
      ((s 2599).tick - 100).toInt < (s 2599).cfg.lossTimeout ∧
      ((s 2600).cfg.lossTimeout : Int) ≤ ((s 2600).tick - 100).toInt ∧ (State.reset.chan 0).intake ≠ .live ∧
      (let u : State := { assembling with tick := 1502500 }
      (u.chan 3).lossFrom = some 1499999 ∧ (u.cfg.lossTimeout : Int) ≤ (u.tick - 1499999).toInt ∧ u.cycle ≠ none ∧
        after (exec (.lossTimeout 3) u) (fun t => t.cycle.isSome) = some true) := by decide +kernel

/-- Over an open cycle and over none, a profiled and an unprofiled opening. -/
theorem witness_CycleStartOpens :
    (close610.nrstLow = false ∧ close610.run = .running ∧ close610.cycle ≠ none) ∧
      ((loaded 5 (profile 0x0350 [])).run = .running ∧ (loaded 5 (profile 0x0350 [])).cycle = none) ∧
      after (exec (.cycleStart 0x0350 9) (loaded 5 (profile 0x0350 []))) (fun t => t.cycle.bind (·.slot)) = some (some 2) ∧
      after (exec (.cycleStart 0 9) close610) (fun t => t.cycle.map (·.slot)) = some (some none) := by decide +kernel

theorem witness_PhaseMarkers :
    let s (log : List PhaseEntry) : State := opened 1 5 log (loaded 9 (profile 5 []))
    ((s (List.replicate 7 ⟨.fill, 6⟩)).nrstLow = false ∧ (s (List.replicate 7 ⟨.fill, 6⟩)).run = .running ∧
        (s (List.replicate 7 ⟨.fill, 6⟩)).cycle = some (cycleAt 1 (some 2) 5 (List.replicate 7 ⟨.fill, 6⟩)) ∧
        (cycleAt 1 (some 2) 5 []).closingEntry = none ∧ (List.replicate 7 (⟨.fill, 6⟩ : PhaseEntry)).length < 8) ∧
      8 ≤ (cycleAt 1 (some 2) 5 (List.replicate 8 ⟨.fill, 6⟩)).log.length ∧
      ((loaded 9 (profile 5 [])).run = .running ∧ (loaded 9 (profile 5 [])).cycleState ≠ .opened) ∧
      State.reset.run = .stopped := by decide +kernel

/-- A LIVE channel one tick short of pair_span past the end, one at it, and none LIVE. -/
theorem witness_CycleEndCloses :
    let s (g : Tick) : State := live 3 g 0 (opened 1 5 [] (loaded 1000 (profile 5 [])))
    ((s 1019).nrstLow = false ∧ (s 1019).run = .running ∧ (s 1019).cycle = some (cycleAt 1 (some 2) 5 []) ∧
        ((s 1019).chan 3).intake = .live ∧ ((s 1019).chan 3).sigma = some 1019 ∧
        ¬0 ≤ ((1019 : Tick) - ((s 1019).tick + BitVec.ofNat 32 (s 1019).cfg.pairSpan)).toInt) ∧
      (((s 1020).chan 3).sigma = some 1020 ∧
        0 ≤ ((1020 : Tick) - ((s 1020).tick + BitVec.ofNat 32 (s 1020).cfg.pairSpan)).toInt) ∧
      ∀ c, (close610.chan c).intake ≠ .live := by decide +kernel

/-- One tick before each timeout and at it. -/
theorem witness_ForcedCloses :
    let s (t : Tick) : State := opened 1 5 [] (loaded t (profile 5 []))
    ((s 1500004).nrstLow = false ∧ (s 1500004).cycle = some (cycleAt 1 (some 2) 5 []) ∧
        (cycleAt 1 (some 2) 5 []).closingEntry = none ∧
        ((s 1500004).tick - 5).toInt < (s 1500004).cfg.maxCycleTicks ∧
        ((s 1500005).cfg.maxCycleTicks : Int) ≤ ((s 1500005).tick - 5).toInt) ∧
      ({ cycleAt 1 (some 2) 5 [] with endTick := some 9, closingEntry := some 9 }.closingEntry = some (9 : Tick) ∧
        ((s 50008).tick - 9).toInt < (s 50008).cfg.settleTimeout ∧
        ((s 50009).cfg.settleTimeout : Int) ≤ ((s 50009).tick - 9).toInt) ∧
      (¬0 ≤ ((4 : Tick) - 5).toInt ∧ 0 ≤ ((5 : Tick) - 5).toInt ∧ 0 < ((9 : Tick) - 8).toInt ∧
        ¬0 < ((9 : Tick) - 9).toInt) := by decide +kernel

theorem witness_Resolution :
    let h : Hit := ⟨1, 1, 5, 255, 9, 0, 9, .fill, none, false, true, false⟩
    (({ close610 with hits := [h] } : State).hits = h :: [] ∧ close610.cycle ≠ none ∧ (h.truncated = true ∨ h.long = true) ∧
        (1 : Chan) ≠ 4) ∧
      (let b : Hit := ⟨1, 88500, 2000100, 9, 1900, 0, 2600, .mainvib, some 52, false, false, false⟩
      let a : Hit := ⟨4, 88500, 2000105, 8, 1400, 0, 3100, .mainvib, some 61, false, false, false⟩
      let zs := zonesInUse close610
      (findPair b [a] zs ≠ none ∧ findPair a [] zs = none ∧ findSingle 4 zs ≠ none ∧ findPair { a with chan := 6 } [] zs = none ∧
          findSingle 6 zs = none) ∧
        (let s (n : Nat) : State := live 2 2000120 0 { close610 with hits := b :: List.replicate n a }
        (s 30).hits.length < 32 ∧ 32 ≤ (s 31).hits.length ∧ headReady b (s 1) = true ∧
          headReady { b with start := 2000101 } (s 1) = false)) := by decide +kernel

/-- Each line of the state rule, at its bound. -/
theorem witness_ZoneStates :
    let d : ZoneDef := { wide (.single 0) with watchLevel := 100, watchHyst := 20, tripLevel := 200, tripCycles := 1 }
    let out (st : ZoneState) (e count : Nat) := evaluateZone d ⟨st, e, 0, none, none⟩ ⟨count, 0, 0⟩ true 9
    ((out .clear 0 1).count = 1 ∧ d.tripCycles ≤ (out .clear 0 1).count) ∧ d.tripLevel ≤ (out .watch 200 0).evidence ∧
      (¬d.tripCycles ≤ (out .clear 199 0).count ∧ ¬d.tripLevel ≤ (out .clear 199 0).evidence ∧
        d.watchLevel ≤ (out .clear 199 0).evidence) ∧
      (¬d.countLimit ≤ 0 ∧ ¬d.watchLevel ≤ (out .watch 80 0).evidence ∧
        d.watchLevel - d.watchHyst ≤ (out .watch 80 0).evidence) ∧
      (evaluateZone d ⟨.watch, 79, 0, none, none⟩ ⟨0, 0, 0⟩ false 9).evidence < d.watchLevel - d.watchHyst := by
  decide +kernel

/-- In that close zones 0 and 3 fire, so zone 3 is the last zone alerted. -/
theorem witness_EvaluationStores :
    (close610.slot 2).profile = some (profile 0x0350 zones610) ∧
      ((List.filter (fun z => z == 0 || z == 3) allZones).getLast? = some 3 ∧ (close610.zone? 2 3) ≠ none) := by
  decide +kernel

theorem witness_RequestArrivals :
    requestOf (.start 3) = some ⟨3, .start⟩ ∧ State.reset.nrstLow = false ∧
      4 ≤ ({ laneOf 16 with requests := List.replicate 4 ⟨1, .start⟩ } : State).requests.length ∧
      (let s : State := { laneOf 16 with requests := List.replicate 3 ⟨1, .start⟩ }
      s.requests.length < 4 ∧ s.controlFree = 0) := by decide +kernel

/-- A state ready for a request: fifteen frames wait, and a cycle is open. -/
def readyState : State :=
  live 1 2100000 2099000 { close610 with controlLane := List.replicate 15 (.head []), holdSet := [3], holdExpiry := some 5 }

/-- R137, R145: a RESTART whose report finds only the held entry free leaves the changed bits of OVERFLOW and RESET. -/
theorem test_restart_changed :
    after (exec (.restart 0) readyState) (·.news.changed) = some 0xC0 ∧
      after (exec (.restart 0) { readyState with controlLane := [] }) (·.news.changed) = some 0x80 := by decide +kernel

theorem witness_Ready : Ready State.reset ∧ Ready renameState ∧ Ready close610 ∧ Ready readyState :=
  ⟨⟨rfl, rfl, by decide, rfl, rfl⟩, ⟨rfl, rfl, by decide, rfl, rfl⟩, ⟨rfl, rfl, by decide, rfl, rfl⟩,
    ⟨rfl, rfl, by decide, rfl, rfl⟩⟩

theorem witness_BadRequests :
    Ready readyState ∧ parseRequest [0x16, 1] = ⟨6, .malformed 1⟩ ∧ 15 < (0x10 : Byte).toNat ∧ 17 < (18 : Byte).toNat ∧
      parseRequest [5, 10, 2, 0] = ⟨5, .malformed 10⟩ ∧ parseRequest [5, 3, 9, 0, 0, 1] = ⟨5, .malformed 3⟩ ∧
      parseRequest [5, 4, 18, 0] = ⟨5, .malformed 4⟩ ∧ parseRequest [15, 10, 2] = ⟨15, .readSlot 2⟩ :=
  ⟨witness_Ready.2.2.2, by decide +kernel⟩

theorem witness_StatusAndCounters : Ready readyState ∧ 1 ≤ readyState.cfg.linkErrLimit ∧ (2 : Byte) ≠ 0 ∧ (2 : Byte) ≠ 1 :=
  ⟨witness_Ready.2.2.2, by decide +kernel⟩

theorem witness_ConfigReads :
    Ready readyState ∧ 7 < (8 : Byte).toNat ∧ ConfigItem.pre ∈ [ConfigItem.floorTrack, .pre] ∧
      (setConfig (.strokeMin 0 2000) readyState).status ≠ .ok ∧ (setConfig (.strokeMin 0 1999) readyState).status = .ok :=
  ⟨witness_Ready.2.2.2, by decide +kernel⟩

theorem witness_ChannelConfigWrites : Ready readyState ∧ 2 < (3 : Byte).toNat ∧ 7 < (8 : Byte).toNat :=
  ⟨witness_Ready.2.2.2, by decide⟩

theorem witness_StoredConfigWrites :
    Ready readyState ∧ (0 : Byte) = BitVec.ofNat 8 (0 : ClassIx).val ∧ (0 : ClassIx) ≠ 7 ∧ 4 < (5 : Byte).toNat ∧
      7 ≤ (7 : Byte).toNat := ⟨witness_Ready.2.2.2, by decide⟩

/-- Each bound from both sides, with a timeout that the write makes due and one that it does not. -/
theorem witness_ActingConfigWrites :
    Ready readyState ∧ (15 : BitVec 16).toNat < 16 ∧ 16 ≤ (16 : BitVec 16).toNat ∧ (1 : Byte) ≠ 0 ∧
      (49999 : BitVec 24).toNat < 50000 ∧ 50000 ≤ (50000 : BitVec 24).toNat ∧
      cycleTimeoutDue { readyState with cfg := { readyState.cfg with maxCycleTicks := 200000 } } = true ∧
      cycleTimeoutDue { readyState with cfg := { readyState.cfg with maxCycleTicks := 200001 } } = false ∧
      (999 : BitVec 16).toNat < 1000 ∧ 1000 ≤ (1000 : BitVec 16).toNat ∧ settleTimeoutDue readyState = false ∧
      settleTimeoutDue
          { readyState with
            cycle := readyState.cycle.map fun cy => { cy with endTick := some 2050000, closingEntry := some 2050000 } } =
        true := ⟨witness_Ready.2.2.2, by decide +kernel⟩

/-- R73: a disable discards the open hit, which leaves the detector BLOCKED. -/
theorem test_disable_discards :
    after (exec (.setChannelEnable 0 0 0) assembling) (fun t => ((t.chan 3).det, (t.chan 3).cnt.hitsClosed)) =
      some (.blocked, 0) := by decide +kernel

/-- A flag kept, a flag newly set and a flag newly cleared, without a hit open and with one. -/
theorem witness_ChannelEnableWrites :
    Ready readyState ∧ readyState.cfg.channelEnable.getLsbD 1 = true ∧ (0b11 : Byte).getLsbD 1 = true ∧
      readyState.cfg.channelEnable.getLsbD 0 = false ∧ (0b11 : Byte).getLsbD 0 = true ∧ (0b01 : Byte).getLsbD 1 = false ∧
      (readyState.cycle ≠ none ∧
        after (exec (.setChannelEnable 0 0 0b01) readyState) (fun t => t.cycle.isSome) = some true) ∧
      (readyState.chan 1).openHit = none ∧
      Ready assembling ∧ assembling.cfg.channelEnable.getLsbD 3 = true ∧ (0 : Byte).getLsbD 3 = false ∧
      (assembling.chan 3).openHit.isSome = true :=
  ⟨witness_Ready.2.2.2, by decide +kernel, by decide +kernel, by decide +kernel, by decide +kernel, by decide +kernel,
    by decide +kernel, by decide +kernel, ⟨rfl, rfl, by decide, rfl, rfl⟩, by decide +kernel⟩

/-- Slot 8; a slot in use, latched, with the ID held elsewhere, rewritten, new; and a record of an EMPTY slot, a slot in use
and one that is free. -/
theorem witness_HeaderAndRecordWrites :
    Ready renameState ∧ Ready readyState ∧ 7 < (8 : Byte).toNat ∧ (2 : Byte) = BitVec.ofNat 8 (2 : SlotIx).val ∧
      (readyState.slot 2).inUse = true ∧
      ((renameState.slot 2).inUse = false ∧ (renameState.slot 2).profile.map (·.mouldId) ≠ some 0x0350 ∧
        (renameState.zone? 2 3).map (·.rt.state) = some .crack) ∧
      ((renameState.slot 5).profile.map (·.mouldId) = some 0x0342 ∧ (renameState.slot 0).profile = none) ∧
      (4095 : BitVec 16).toNat ≤ 4095 ∧ (1023 : BitVec 16).toNat ≤ 1023 ∧ ¬(1024 : BitVec 16).toNat ≤ 1023 :=
  ⟨witness_Ready.2.1, witness_Ready.2.2.2, by decide +kernel⟩

/-- The fields of a PAIR zone at the upper ends of their ranges. -/
def fields : ZoneFields :=
  { kind := 1, tripCycles := 8, spare := 0, requirePhase := 1, chX := 7, chY := 0, dmin := 0x81, dmax := 0x7F
    phaseMask := 0x3F, gateLo := 255, gateHi := 0, minArea := 2097151, countLimit := 255, areaShift := 15, leakShift := 15
    watchLevel := 65534, watchHyst := 65534, tripLevel := 65535, watchCode := 4, watchRepeat := 1, crackCode := 4
    crackRepeat := 1 }

theorem witness_ZoneWrites :
    Ready renameState ∧ Ready readyState ∧ 15 < (16 : Byte).toNat ∧ (15 : Byte) = BitVec.ofNat 8 (15 : ZoneIx).val ∧
      (renameState.slot 0).profile = none ∧ (readyState.slot 2).inUse = true ∧
      ((renameState.slot 2).inUse = false ∧ (renameState.zone? 2 3).map (·.rt.state) = some .crack ∧
        (renameState.zone? 2 15) = none) ∧
      zoneWriteOf { fields with dmin := 0x80 } = .bad ∧ ({ fields with kind := 0 } : ZoneFields).kind = 0 ∧
      (match zoneWriteOf fields with | .define d => d.watchLevel == 65534 | _ => false) = true :=
  ⟨witness_Ready.2.1, witness_Ready.2.2.2, by decide +kernel⟩

theorem witness_ClearsAndAcknowledgements :
    Ready renameState ∧ 7 < (8 : Byte).toNat ∧ 15 < (16 : Byte).toNat ∧ (7 : Byte) = BitVec.ofNat 8 (7 : SlotIx).val ∧
      (renameState.slot 7).profile = none ∧ (renameState.zone? 2 15) = none ∧ (renameState.zone? 2 3) ≠ none :=
  ⟨witness_Ready.2.1, by decide +kernel⟩

theorem witness_TableReads :
    Ready renameState ∧ 7 < (8 : Byte).toNat ∧ (renameState.slot 7).profile = none ∧ (renameState.slot 2).profile ≠ none ∧
      (15 : Byte).toNat ≤ 15 ∧ ZoneDefInv crackZone.defn ∧ crackZone.rt.count ≤ 8 := by
  refine ⟨witness_Ready.2.1, by decide, by decide +kernel, by decide +kernel, by decide, ?_, by decide⟩
  exact (witness_TableKept.1.zones 2 15 crackZone (by decide +kernel)).1

theorem witness_RunAndRelease :
    Ready renameState ∧ renameState.cycle = none ∧ (135 : Byte).toNat ≤ 135 ∧ 135 < (136 : Byte).toNat ∧ (2 : Byte) ≠ 0 ∧
      (2 : Byte) ≠ 1 := ⟨witness_Ready.2.1, by decide +kernel⟩

/-- Fourteen frames and the held entry leave room for the report; fifteen leave none. -/
theorem witness_StopAbandons :
    Ready readyState ∧ readyState.cycle = close610.cycle ∧ close610.cycle ≠ none ∧ readyState.controlLane.length = 15 ∧
      close610.controlLane.length < 15 := ⟨witness_Ready.2.2.2, by decide +kernel⟩

/-- A value out of range; an IDLE cycle; a start one tick before the window, and at its first tick. -/
theorem witness_InjectedHits :
    let s (g : Tick) : State := live 1 g 0 (burst 2100000)
    Ready (s 1900255) ∧ 4095 * (1 : Byte).toNat < (4096 : BitVec 24).toNat ∧ renameState.cycleState ≠ .opened ∧
      ((s 1900254).cycleState = .opened ∧ ((s 1900254).chan 1).intake = .live ∧ ((s 1900254).chan 1).sigma = some 1900254) ∧
      0 < ((1900000 : Tick) - (1900254 - BitVec.ofNat 32 (255 : Byte).toNat)).toInt ∧
      ((1900000 : Tick) - (1900255 - BitVec.ofNat 32 (255 : Byte).toNat)).toInt ≤ 0 :=
  ⟨⟨rfl, rfl, by decide, rfl, rfl⟩, by decide +kernel⟩

/-- The ready state with every class unmasked, not live, and of one action. -/
def unmasked (a : ActionCode) : State := { readyState with classes := Vector.replicate 8 ⟨false, false, false, false, a⟩ }

/-- All classes masked; and a rise of each action that reaches an output, with a cycle open and IDLE. -/
theorem witness_ForcedFaults :
    Ready readyState ∧ (∀ a, Ready (unmasked a)) ∧
      (∀ k : ClassIx,
        ({ readyState with classes := Vector.replicate 8 (FaultClass.reset true) } : State).classes[k].masked = true) ∧
      (∀ a ∈ [ActionCode.reject, .holdAtEnd, .holdNow],
        ((0x40 : Byte).getLsbD 6 = true ∧ (unmasked a).classes[clsOverflow].live = false ∧
          (unmasked a).classes[clsOverflow].masked = false ∧ (unmasked a).classes[clsOverflow].action = a)) ∧
      (unmasked .holdAtEnd).cycle ≠ none ∧ ({ unmasked .holdAtEnd with cycle := none } : State).cycle = none :=
  ⟨witness_Ready.2.2.2, fun _ => ⟨rfl, rfl, witness_Ready.2.2.2.free, rfl, rfl⟩, by decide +kernel⟩

/-- A cycle open and none; and a report that is lost, with OVERFLOW unmasked. -/
theorem witness_RestartResets :
    Ready readyState ∧ readyState.cycle ≠ none ∧ Ready renameState ∧ renameState.cycle = none ∧
      ((unmasked .reject).cycle.isSome = true ∧ (unmasked .reject).controlLane.length = 15) ∧
      ({ readyState with classes := Vector.replicate 8 ⟨false, true, true, false, .none⟩ } : State).classes[3].sticky = true :=
  ⟨witness_Ready.2.2.2, by decide +kernel, witness_Ready.2.1, by decide +kernel⟩

/-- R151, R137: the report that finds no entry at a RESTART sets its mark, and OVERFLOW's REJECT runs the pulse. -/
theorem test_restart_marks :
    after (exec (.restart 0) (unmasked .reject)) (fun t => (t.reportLost, t.horizon, t.rejectExpiry.isSome)) =
      some (true, some 2100000, true) := by decide +kernel

end Sys2Proof.Tests
end

section
/-! INJECT_HIT (R79, R81, R94, R175, R176): what resolution leaves alone, what the join of the pending list does to the
cycle's accounting, the outcomes of the request's checks, and O58. -/

namespace Sys2Proof.Machine

/-! ### What resolution leaves alone (R83, R84, R86-R95) -/

/-- The part of a cycle record that only the join of a hit changes: its number and its count of closed hits (R94). -/
def Cycle.joined (cy : Cycle) : CycleNumber × Nat := (cy.number, cy.counts.hitsClosed)

/-- What no resolution touches: the channels, the mould table, and the open cycle's number and count of closed hits. -/
structure ResolveFrame (s t : State) : Prop where
  chans : t.chans = s.chans
  slots : t.slots = s.slots
  joined : t.cycle.map Cycle.joined = s.cycle.map Cycle.joined

theorem ResolveFrame.refl (s : State) : ResolveFrame s s := ⟨rfl, rfl, rfl⟩

theorem ResolveFrame.trans {s t u : State} (h : ResolveFrame s t) (g : ResolveFrame t u) : ResolveFrame s u :=
  ⟨g.chans.trans h.chans, g.slots.trans h.slots, g.joined.trans h.joined⟩

/-- A REJECT flag that a fault sets is outside the accounting. -/
theorem FaultFrame.resolve {s t : State} (h : FaultFrame s t) : ResolveFrame s t := by
  refine ⟨h.chans, h.slots, ?_⟩
  rcases h.cycle with e | e <;> rw [e]
  rw [Option.map_map]
  rfl

theorem setHits_resolve (l : List Hit) (s : State) : ResolveFrame s { s with hits := l } := ⟨rfl, rfl, rfl⟩

theorem count_resolve (f : PartCounters → PartCounters) (s : State) : ResolveFrame s (s.count f) := ⟨rfl, rfl, rfl⟩

theorem updCycle_resolve {f : Cycle → Cycle} (hf : ∀ cy, (f cy).joined = cy.joined) (s : State) :
    ResolveFrame s (s.updCycle f) := by
  refine ⟨rfl, rfl, ?_⟩
  rw [State.updCycle_cycle, Option.map_map]
  exact congrArg (s.cycle.map ·) (funext hf)

theorem updCounts_resolve {f : CycleCounts → CycleCounts} (hf : ∀ k, (f k).hitsClosed = k.hitsClosed) (s : State) :
    ResolveFrame s (s.updCounts f) :=
  updCycle_resolve (f := fun cy => { cy with counts := f cy.counts }) (fun cy => congrArg (cy.number, ·) (hf cy.counts)) s

theorem offerEvent_resolve (e : EventRec) (s : State) : ResolveFrame s (offerEvent e s) := by
  unfold offerEvent
  split
  · split
    · exact ResolveFrame.trans (t := { s with controlLane := s.controlLane ++ [.event e] }) ⟨rfl, rfl, rfl⟩
        (arbitrate_frame _).resolve
    · exact count_resolve _ s
  · exact .refl s

theorem takeEvent_resolve (e : EventRec) (s : State) : ResolveFrame s (takeEvent e s) :=
  (updCycle_resolve (fun _ => by rfl) s).trans (offerEvent_resolve e _)

theorem resolveHit_resolve (h : Hit) (rest : List Hit) (s : State) : ResolveFrame s (resolveHit h rest s) := by
  have counted (f : CycleCounts → CycleCounts) (hf : ∀ k, (f k).hitsClosed = k.hitsClosed) (l : List Hit) :
      ResolveFrame s ({ s with hits := l }.updCounts f) := (setHits_resolve l s).trans (updCounts_resolve hf _)
  unfold resolveHit
  dsimp only
  split
  · exact counted _ (fun _ => by rfl) rest
  · split
    · exact (counted _ (fun _ => by rfl) _).trans (takeEvent_resolve _ _)
    · split
      · exact (counted _ (fun _ => by rfl) rest).trans (takeEvent_resolve _ _)
      · exact counted _ (fun _ => by rfl) rest

theorem resolveHead_resolve (s : State) : ResolveFrame s (resolveHead s) := by
  unfold resolveHead
  split
  · exact .refl s
  · exact resolveHit_resolve _ _ s

theorem resolveReady_resolve : ∀ (n : Nat) (s : State), ResolveFrame s (resolveReady n s)
  | 0, s => .refl s
  | n + 1, s => by
    unfold resolveReady
    split
    · exact .refl s
    · split
      · exact (resolveHead_resolve s).trans (resolveReady_resolve n _)
      · exact .refl s

theorem resolutionTest_resolve (s : State) : ResolveFrame s (resolutionTest s) := resolveReady_resolve _ s

theorem earlyResolution_resolve (s : State) : ResolveFrame s (earlyResolution s) :=
  ((resolveHead_resolve s).trans (count_resolve _ _)).trans (raise_frame _ _).resolve

/-! ### The join of the pending list (R81, R84, R94) -/

/-- The join touches neither the channels nor the table and counts the hit once in the open cycle, at a full list too. -/
theorem joinList_accounts (h : Hit) (s : State) :
    (joinList h s).chans = s.chans ∧ (joinList h s).slots = s.slots ∧
      (joinList h s).cycle.map Cycle.joined = (s.cycle.map Cycle.joined).map fun p => (p.1, inc32 p.2) := by
  have early : ResolveFrame s (if Config.pendingCapacity ≤ s.hits.length then earlyResolution s else s) := by
    split
    · exact earlyResolution_resolve s
    · exact .refl s
  unfold joinList
  dsimp only
  generalize (if Config.pendingCapacity ≤ s.hits.length then earlyResolution s else s) = x at early ⊢
  have test := resolutionTest_resolve
    ({ x with hits := insertHit h x.hits }.updCounts fun k => { k with hitsClosed := inc32 k.hitsClosed })
  refine ⟨test.chans.trans early.chans, test.slots.trans early.slots, ?_⟩
  rw [test.joined, ← early.joined, Option.map_map]
  exact Option.map_map ..

/-- The head's readiness looks at the channels' intake states and settled ticks and at pair_span alone (R82). -/
theorem headReady_congr {s t : State} (h : Hit) (hi : ∀ d, (t.chan d).intake = (s.chan d).intake)
    (hg : ∀ d, (t.chan d).sigma = (s.chan d).sigma) (hc : t.cfg = s.cfg) : headReady h t = headReady h s := by
  simp only [headReady, State.isLive, settledTo, hi, hg, hc]

/-- A hit that joins an empty list and may not be resolved stays, alone (R81, R83). -/
theorem joinList_hits_of_waits {h : Hit} {s : State} (he : s.hits = []) (hw : headReady h s = false) :
    (joinList h s).hits = [h] := by
  have hw' : headReady h
      ({ s with hits := [h] }.updCounts fun k => { k with hitsClosed := inc32 k.hitsClosed }) = false := hw
  simp [joinList, he, Config.pendingCapacity, insertHit, resolutionTest, resolveReady, State.updCounts_hits, hw']

/-! ### An execution that finds nothing in its way (R144, R157) -/

/-- The state in which a request is carried out: an entry is held for its RESPONSE and the arbiter's choice put off (R144,
R146). -/
abbrev State.executing (s : State) : State := { s with held := true, deferred := true }

/-- What a request does with the entry held and the arbiter's choice put off shows when both marks are taken back. -/
theorem arrive_performs {s t : State} {r : TaggedRequest} {st : Status} {body : List Byte} (h : Ready s)
    (hp : perform r.req s.executing = ⟨st, body, t⟩) :
    takes (arriveRequest r) s =
      .next (answered r.tag r.req.code st body { t with held := false, deferred := false }) := by
  rw [arrive_ready r h, execute_answered, hp]

theorem Ready.marks_clear {s : State} (h : Ready s) : { s with held := false, deferred := false } = s := by
  cases s
  obtain ⟨-, -, -, rfl, rfl⟩ := h
  rfl

/-- A refused request changes nothing but its RESPONSE. -/
theorem arrive_refuses {s : State} {r : TaggedRequest} {st : Status} (h : Ready s)
    (hp : perform r.req s.executing = refuse st s.executing) :
    takes (arriveRequest r) s = .next (answered r.tag r.req.code st [] s) := by
  rw [arrive_performs h hp]
  exact congrArg (fun x => Host.Outcome.next (answered r.tag r.req.code st [] x)) h.marks_clear

/-- The frame of a work done within an execution, once the marks are taken back. -/
theorem Ready.work {s t : State} (h : Ready s) (w : WorkFrame s.executing t) :
    WorkFrame s { t with held := false, deferred := false } := by
  have b := w.base
  exact ⟨⟨b.pending, b.nrst, b.tick, b.strokes, b.lastStroke, b.paused, b.requests, b.headBound, b.headTx, h.held.symm,
    h.deferred.symm, b.classes⟩, w.run, w.cfg⟩

/-! ### The checks of INJECT_HIT (R175) -/

theorem exec_injectHit (tag : Tag) (a off dur : Byte) (peak : BitVec 16) (area : BitVec 24) (s : State) :
    exec (.injectHit tag a off dur peak area) s = takes (arriveRequest ⟨tag, .injectHit a off dur peak area⟩) s := rfl

theorem chanOfByte_of_lt {a : Byte} (h : 7 < a.toNat) : chanOfByte a = none := dif_neg (by omega)

theorem chanOfByte_ofNat (c : Chan) : chanOfByte (BitVec.ofNat 8 c.val) = some c := by
  have hc : (BitVec.ofNat 8 c.val).toNat = c.val := by rw [BitVec.toNat_ofNat]; omega
  simp [chanOfByte, hc]

/-- A request's values pass the first check (R175). -/
def InjectValues (dur : Byte) (peak : BitVec 16) (area : BitVec 24) : Prop :=
  ¬(dur = 0 ∨ Config.sampleMax < peak.toNat ∨ dur.toNat * Config.sampleMax < area.toNat)

theorem injectValues_iff {dur : Byte} {peak : BitVec 16} {area : BitVec 24} :
    InjectValues dur peak area ↔ dur ≠ 0 ∧ peak.toNat ≤ 4095 ∧ area.toNat ≤ 4095 * dur.toNat := by
  simp only [InjectValues, Config.sampleMax, not_or, Nat.not_lt, Nat.mul_comm dur.toNat, ne_eq]

theorem injectHit_badValue {a dur : Byte} {peak : BitVec 16} {area : BitVec 24}
    (h : 7 < a.toNat ∨ ¬InjectValues dur peak area) (off : Byte) (s : State) :
    injectHit a off dur peak area s = refuse .badValue s := by
  unfold injectHit
  rcases h with h | h
  · rw [chanOfByte_of_lt h]
  · split
    · rfl
    · rw [if_pos (Classical.not_not.1 h)]

/-- No hit is injected without an OPEN cycle and a LIVE channel that has settled (R175). -/
theorem injectHit_notOpen {dur : Byte} {peak : BitVec 16} {area : BitVec 24} (hv : InjectValues dur peak area) {c : Chan}
    {s : State} (h : s.cycleState ≠ .opened ∨ (s.chan c).intake ≠ .live ∨ (s.chan c).sigma = none) (off : Byte) :
    injectHit (BitVec.ofNat 8 c.val) off dur peak area s = refuse .notOpen s := by
  simp only [injectHit, chanOfByte_ofNat, if_neg hv]
  by_cases ho : s.cycleState = .opened
  · have hs : (if s.isLive c then (s.chan c).sigma else none) = none := by
      rcases h with h | h | h
      · exact absurd ho h
      · simp [State.isLive, h]
      · simp [h]
    simp [hs]
  · rw [if_pos ho]

/-- With those, the start decides: before the window the request is refused, else the hit is handed on (R175, R176). -/
theorem injectHit_open {dur : Byte} {peak : BitVec 16} {area : BitVec 24} (hv : InjectValues dur peak area) {c : Chan}
    {s : State} {cy : Cycle} {g : Tick} (hc : s.cycle = some cy) (ho : cy.closingEntry = none)
    (hl : (s.chan c).intake = .live) (hg : (s.chan c).sigma = some g) (off : Byte) :
    injectHit (BitVec.ofNat 8 c.val) off dur peak area s =
      if isBefore (tickSub g off.toNat) cy.startTick then refuse .notOpen s
      else done (handOn (injectedHit s cy c (tickSub g off.toNat) dur.toNat peak.toNat area.toNat) s) := by
  have hs : s.cycleState = .opened := by simp [State.cycleState, hc, ho]
  simp only [injectHit, chanOfByte_ofNat, if_neg hv]
  simp [hs, hc, State.isLive, hl, hg]

/-! ### The hit handed on (R79, R81, R94) -/

/-- A whole hit is counted on its channel, then joins the list. -/
theorem handOn_whole {h : Hit} (ht : h.truncated = false) (s : State) :
    handOn h s = joinList h (s.countChan h.chan fun k => { k with hitsClosed := inc32 k.hitsClosed }) := by
  simp [handOn, ht]

/-- A whole hit handed on in an open cycle: counted once on its channel and once in the cycle, the other channels and the
table as they were. -/
theorem handOn_accounts {h : Hit} (ht : h.truncated = false) {s : State} {cy : Cycle} (hc : s.cycle = some cy) :
    (∃ cy', (handOn h s).cycle = some cy' ∧ cy'.number = cy.number ∧
        cy'.counts.hitsClosed = inc32 cy.counts.hitsClosed) ∧
      (handOn h s).chan h.chan =
        { s.chan h.chan with cnt := { (s.chan h.chan).cnt with hitsClosed := inc32 (s.chan h.chan).cnt.hitsClosed } } ∧
      (∀ d, d ≠ h.chan → (handOn h s).chan d = s.chan d) ∧ (handOn h s).slots = s.slots := by
  rw [handOn_whole ht]
  generalize hx : s.countChan h.chan (fun k => { k with hitsClosed := inc32 k.hitsClosed }) = x
  obtain ⟨chans, slots, joined⟩ := joinList_accounts h x
  have chan_same (d : Chan) : (joinList h x).chan d = x.chan d := congrArg (·[d]) chans
  have cycle_same : x.cycle = some cy := by rw [← hx]; exact hc
  refine ⟨?_, ?_, fun d hd => ?_, ?_⟩
  · rw [cycle_same, Option.map_some, Option.map_some] at joined
    obtain ⟨cy', hcy, hj⟩ := Option.map_eq_some_iff.1 joined
    obtain ⟨number, counted⟩ := Prod.mk.inj hj
    exact ⟨cy', hcy, number, counted⟩
  · rw [chan_same, ← hx]
    exact s.chan_updChan_self h.chan _
  · rw [chan_same, ← hx]
    exact s.chan_updChan_ne _ hd
  · rw [slots, ← hx]
    rfl

/-- A whole hit handed on to an empty list, that may not be resolved, waits there alone: the count on its channel does not
bear on its readiness. -/
theorem handOn_hits_of_waits {h : Hit} (ht : h.truncated = false) {s : State} (he : s.hits = [])
    (hw : headReady h s = false) : (handOn h s).hits = [h] := by
  have counted (d : Chan) (f : ChanCounters → ChanCounters) :
      ((s.countChan h.chan f).chan d).intake = (s.chan d).intake ∧
        ((s.countChan h.chan f).chan d).sigma = (s.chan d).sigma := by
    by_cases hd : d = h.chan
    · subst hd; simp [State.countChan]
    · simp [State.countChan, s.chan_updChan_ne _ hd]
  rw [handOn_whole ht]
  refine joinList_hits_of_waits he ?_
  rw [headReady_congr h (fun d => (counted d _).1) (fun d => (counted d _).2) rfl, hw]

/-! ### O58 -/

/-- Settles O58: each check's refusal leaves the state to the RESPONSE alone; a hit that passes them is handed on, whose
accounting does not depend on what the list holds. -/
theorem injectedHits : Obligations.InjectedHits := by
  unfold Obligations.InjectedHits
  intro tag a off dur peak area s hr run
  refine ⟨fun hbad => ?_, fun c ha hd hp har => ?_⟩
  · refine arrive_refuses hr (injectHit_badValue (hbad.imp_right fun h => ?_) off _)
    rw [injectValues_iff]
    rintro ⟨hd, hp, har⟩
    rcases h with h | h | h
    · exact hd h
    · omega
    · omega
  subst ha
  have hv : InjectValues dur peak area := injectValues_iff.2 ⟨hd, hp, har⟩
  refine ⟨fun hno => arrive_refuses hr (injectHit_notOpen (s := s.executing) hv hno off), ?_⟩
  intro cy g hc ho hl hg start record
  have open_eq := injectHit_open (s := s.executing) hv hc ho hl hg off
  refine ⟨fun before => ?_, fun inside => ?_⟩
  · exact arrive_refuses hr (open_eq.trans (if_pos (decide_eq_true before)))
  · have not_before : ¬isBefore start cy.startTick = true := by simpa [isBefore, ticksSince] using inside
    have whole : record.truncated = false := rfl
    obtain ⟨⟨cy', hcy, number, counted⟩, chan_self, chan_ne, slots⟩ := handOn_accounts whole (s := s.executing) hc
    have work := hr.work (handOn_work record s.executing)
    refine ⟨{ handOn record s.executing with held := false, deferred := false }, cy',
      arrive_performs hr (open_eq.trans (if_neg not_before)), hcy, number, counted, chan_self, chan_ne, slots, work.base,
      work.run, work.cfg, handOn_hits_of_waits whole (s := s.executing), ?_⟩
    rw [handOn_whole whole]
    rfl

end Sys2Proof.Machine
end

section
/-! Resolution (R80-R95): which zone finds a partner for a hit, what the head of the pending list becomes, where a hit joins,
when the tests act, and O39. -/

namespace Sys2Proof.Machine

/-! ### Candidates and partners (R7, R87, R88, R89) -/

theorem isCandidate_iff {span : Nat} {h g : Hit} :
    isCandidate span h g = true ↔
      g.cycle = h.cycle ∧ g.chan ≠ h.chan ∧ 0 ≤ ticksSince (tickAdd h.start span) g.start ∧ g.truncated = false ∧
        g.long = false := by
  simp [isCandidate, atOrBefore, and_assoc]

theorem inWindow_iff {lo hi d : Int} : inWindow lo hi d = true ↔ lo ≤ d ∧ d ≤ hi := by simp [inWindow]

/-- The first candidate on the sought channel, with the delay it gives, where the window admits it; no later one is tried
(R88). -/
def soughtPartner (sought : Chan) (lo hi : Int) (delay : Hit → Int) (cands : List Hit) : Option (Hit × Int) :=
  (cands.find? (·.chan == sought)).bind fun g => if inWindow lo hi (delay g) then some (g, delay g) else none

theorem soughtPartner_eq_some {sought : Chan} {lo hi : Int} {delay : Hit → Int} {cands : List Hit} {g : Hit} {d : Int} :
    soughtPartner sought lo hi delay cands = some (g, d) ↔
      (lo ≤ d ∧ d ≤ hi) ∧ cands.find? (·.chan == sought) = some g ∧ d = delay g := by
  simp only [soughtPartner, Option.bind_eq_some_iff, Option.ite_none_right_eq_some, Option.some.injEq, Prod.mk.injEq,
    inWindow_iff]
  constructor
  · rintro ⟨_, found, admitted, rfl, rfl⟩; exact ⟨admitted, found, rfl⟩
  · rintro ⟨admitted, found, rfl⟩; exact ⟨g, found, admitted, rfl, rfl⟩

/-- A PAIR zone looks for the head's partner on its other channel; the delay is the start on y less the start on x (R88). -/
theorem zonePartner_pair (h : Hit) (cands : List Hit) (x y : Chan) (lo hi : Int) :
    zonePartner (.pair x y lo hi) h cands =
      if h.chan = x then soughtPartner y lo hi (fun g => ticksSince g.start h.start) cands
      else if h.chan = y then soughtPartner x lo hi (fun g => ticksSince h.start g.start) cands
      else none := by
  dsimp only [zonePartner, soughtPartner]
  cases cands.find? (·.chan == x) <;> cases cands.find? (·.chan == y) <;> rfl

theorem zonePartner_pair_eq_some {h g : Hit} {cands : List Hit} {x y : Chan} {lo hi d : Int} (hxy : x ≠ y) :
    zonePartner (.pair x y lo hi) h cands = some (g, d) ↔
      (lo ≤ d ∧ d ≤ hi) ∧
        (h.chan = x ∧ cands.find? (·.chan == y) = some g ∧ d = ticksSince g.start h.start ∨
          h.chan = y ∧ cands.find? (·.chan == x) = some g ∧ d = ticksSince h.start g.start) := by
  rw [zonePartner_pair]
  by_cases hx : h.chan = x
  · have hy : h.chan ≠ y := hx ▸ hxy
    rw [if_pos hx, soughtPartner_eq_some]
    simp [hx, hxy]
  · by_cases hy : h.chan = y
    · rw [if_neg hx, if_pos hy, soughtPartner_eq_some]
      simp [hy, hxy.symm]
    · simp [hx, hy]

theorem findPair_eq_findSome? (h : Hit) (cands : List Hit) : ∀ zs : List (ZoneIx × Zone),
    findPair h cands zs = zs.findSome? fun p => (zonePartner p.2.defn.kind h cands).map fun q => (p.1, p.2, q.1, q.2)
  | [] => rfl
  | (z, r) :: zs => by
    rw [findPair, List.findSome?_cons, findPair_eq_findSome? h cands zs]
    cases zonePartner r.defn.kind h cands <;> rfl

/-- The zone taken is the first of the list that finds a partner (R88). -/
theorem findPair_eq_some {h g : Hit} {cands : List Hit} {zs : List (ZoneIx × Zone)} {z : ZoneIx} {r : Zone} {d : Int} :
    findPair h cands zs = some (z, r, g, d) ↔
      ∃ before after,
        zs = before ++ (z, r) :: after ∧ zonePartner r.defn.kind h cands = some (g, d) ∧
          ∀ p ∈ before, zonePartner p.2.defn.kind h cands = none := by
  rw [findPair_eq_findSome?, List.findSome?_eq_some_iff]
  simp only [Option.map_eq_some_iff, Option.map_eq_none_iff, Prod.mk.injEq]
  constructor
  · rintro ⟨before, _, after, split, ⟨_, partner, rfl, rfl, rfl, rfl⟩, passed⟩
    exact ⟨before, after, split, partner, passed⟩
  · rintro ⟨before, after, split, partner, passed⟩
    exact ⟨before, (z, r), after, split, ⟨(g, d), partner, rfl, rfl, rfl, rfl⟩, passed⟩

/-- The SINGLE zone taken is the first of the list on the channel (R89). -/
theorem findSingle_eq_some {c : Chan} {zs : List (ZoneIx × Zone)} {z : ZoneIx} {r : Zone} :
    findSingle c zs = some (z, r) ↔
      ∃ before after,
        zs = before ++ (z, r) :: after ∧ r.defn.kind = .single c ∧ ∀ p ∈ before, p.2.defn.kind ≠ .single c := by
  rw [findSingle, List.find?_eq_some_iff_append]
  simp only [beq_iff_eq, Bool.not_eq_true', beq_eq_false_iff_ne]
  constructor
  · rintro ⟨kind, before, after, split, passed⟩; exact ⟨before, after, split, kind, passed⟩
  · rintro ⟨before, after, split, kind, passed⟩; exact ⟨kind, before, after, split, passed⟩

theorem mem_allZones : ∀ z, z ∈ allZones := by decide

theorem allZones_ascending : allZones.Pairwise (· < ·) := by decide

theorem mem_allChans : ∀ c, c ∈ allChans := by decide

theorem mem_zonesInUse {s : State} {z : ZoneIx} {r : Zone} :
    (z, r) ∈ zonesInUse s ↔ ∃ k, s.slotInUse = some k ∧ s.zone? k z = some r := by
  unfold zonesInUse
  cases s.slotInUse with
  | none => simp
  | some k => simp [mem_allZones]

theorem zonesInUse_ascending (s : State) : (zonesInUse s).Pairwise fun p q => p.1 < q.1 := by
  unfold zonesInUse
  cases s.slotInUse with
  | none => exact .nil
  | some k =>
    refine List.Pairwise.filterMap _ (fun z w less p hp q hq => ?_) allZones_ascending
    obtain ⟨_, -, rfl⟩ := Option.map_eq_some_iff.1 hp
    obtain ⟨_, -, rfl⟩ := Option.map_eq_some_iff.1 hq
    exact less

/-! ### What the head becomes (R86-R93) -/

theorem updCounts_of_cycle {s : State} {cy : Cycle} (hc : s.cycle = some cy) (f : CycleCounts → CycleCounts) :
    s.updCounts f = { s with cycle := some { cy with counts := f cy.counts } } := by
  simp [State.updCounts, State.updCycle, hc]

theorem takeEvent_of_cycle {s : State} {cy : Cycle} (hc : s.cycle = some cy) (e : EventRec) :
    takeEvent e s =
      offerEvent e
        { s with
          cycle := some { cy with tallies := cy.tallies.set e.zone (cy.tallies[e.zone].add e.scored e.area) } } := by
  simp [takeEvent, State.updCycle, hc]

section
variable {s : State} {h : Hit} {rest : List Hit}

theorem resolveHead_nil (hs : s.hits = []) : resolveHead s = s := by simp [resolveHead, hs]

theorem resolveHead_cons (hs : s.hits = h :: rest) : resolveHead s = resolveHit h rest s := by simp [resolveHead, hs]

theorem resolveHead_noise (hs : s.hits = h :: rest) (hn : h.truncated = true ∨ h.long = true) :
    resolveHead s = ({ s with hits := rest } : State).updCounts fun k => { k with noise := inc32 k.noise } := by
  simp [resolveHead_cons hs, resolveHit, hn]

/-- The partner of a whole head among the hits behind it, with the zone that finds it (R87, R88). -/
def headPartner (h : Hit) (rest : List Hit) (s : State) : Option (ZoneIx × Zone × Hit × Int) :=
  findPair h (rest.filter (isCandidate s.cfg.pairSpan h)) (zonesInUse s)

theorem zonesInUse_setHits (l : List Hit) (s : State) : zonesInUse { s with hits := l } = zonesInUse s := rfl

variable (hs : s.hits = h :: rest) (ht : h.truncated = false) (hl : h.long = false)
include hs ht hl

theorem resolveHead_pair {z : ZoneIx} {r : Zone} {g : Hit} {d : Int} (hp : headPartner h rest s = some (z, r, g, d)) :
    resolveHead s =
      takeEvent (pairEvent z r.defn h g d)
        (({ s with hits := rest.erase g } : State).updCounts fun k => { k with pairEvents := inc32 k.pairEvents }) := by
  rw [headPartner] at hp
  simp [resolveHead_cons hs, resolveHit, ht, hl, zonesInUse_setHits, hp]

theorem resolveHead_single {z : ZoneIx} {r : Zone} (hp : headPartner h rest s = none)
    (hz : findSingle h.chan (zonesInUse s) = some (z, r)) :
    resolveHead s =
      takeEvent (singleEvent z r.defn h)
        (({ s with hits := rest } : State).updCounts fun k => { k with singleEvents := inc32 k.singleEvents }) := by
  rw [headPartner] at hp
  simp [resolveHead_cons hs, resolveHit, ht, hl, zonesInUse_setHits, hp, hz]

theorem resolveHead_unlocated (hp : headPartner h rest s = none) (hz : findSingle h.chan (zonesInUse s) = none) :
    resolveHead s = ({ s with hits := rest } : State).updCounts fun k => { k with unlocated := inc32 k.unlocated } := by
  rw [headPartner] at hp
  simp [resolveHead_cons hs, resolveHit, ht, hl, zonesInUse_setHits, hp, hz]

end

/-! ### The place where a hit joins (R80, R81) -/

theorem joinsBefore_iff {h g : Hit} :
    joinsBefore h g = true ↔ 0 < ticksSince g.start h.start ∨ h.start = g.start ∧ h.chan < g.chan := by
  simp [joinsBefore, isBefore]

/-- A hit goes in front of the first hit that it precedes. -/
theorem insertHit_splits (h : Hit) : ∀ l : List Hit,
    ∃ before after,
      l = before ++ after ∧ insertHit h l = before ++ h :: after ∧ (∀ g ∈ before, ¬joinsBefore h g = true) ∧
        ∀ g ∈ after.head?, joinsBefore h g = true
  | [] => ⟨[], [], rfl, rfl, by simp, by simp⟩
  | f :: fs => by
    by_cases hf : joinsBefore h f = true
    · exact ⟨[], f :: fs, rfl, by simp [insertHit, hf], by simp, by simp [hf]⟩
    · obtain ⟨before, after, split, joined, passed, stop⟩ := insertHit_splits h fs
      exact ⟨f :: before, after, by rw [split]; rfl, by simp [insertHit, hf, joined],
        List.forall_mem_cons.2 ⟨hf, passed⟩, stop⟩

/-! ### The tests (R82, R83, R95) -/

theorem settledTo_iff {s : State} {c : Chan} {t : Tick} :
    settledTo s c t = true ↔ ∃ g, (s.chan c).sigma = some g ∧ 0 ≤ ticksSince g t := by
  unfold settledTo
  cases (s.chan c).sigma <;> simp [atOrBefore]

/-- The head waits for every other LIVE channel (R82). -/
theorem headReady_iff {h : Hit} {s : State} :
    headReady h s = true ↔
      ∀ c, c ≠ h.chan → (s.chan c).intake = .live →
        ∃ g, (s.chan c).sigma = some g ∧ 0 ≤ ticksSince g (tickAdd h.start s.cfg.pairSpan) := by
  simp only [headReady, List.all_eq_true, mem_allChans, true_imp_iff, ← settledTo_iff, State.isLive]
  refine forall_congr' fun c => ?_
  by_cases own : c = h.chan
  · simp [own]
  · by_cases live : (s.chan c).intake = .live
    · simp [own, live]
    · simp [own, live]

/-- A resolution that goes head by head, and rests on an empty list, is over once its fuel covers every pending hit: a head
that resolves leaves the list shorter. -/
theorem fuel_covers {run : Nat → State → State} (rests : ∀ {s : State}, s.hits = [] → ∀ n, run n s = s)
    (goes : ∀ {s : State} {h : Hit} {rest : List Hit}, s.hits = h :: rest →
      (∀ n, run (n + 1) s = run n (resolveHead s)) ∨ ∀ n, run (n + 1) s = s) :
    ∀ {n m : Nat} {s : State}, s.hits.length ≤ n → s.hits.length ≤ m → run n s = run m s := by
  intro n
  induction n with
  | zero =>
    intro m s hn _
    have empty : s.hits = [] := List.length_eq_zero_iff.1 (Nat.le_zero.1 hn)
    rw [rests empty, rests empty]
  | succ n ih =>
    intro m s hn hm
    cases hs : s.hits with
    | nil => rw [rests hs, rests hs]
    | cons h rest =>
      have shorter := resolveHead_length hs
      rw [hs, List.length_cons] at hn hm
      obtain ⟨m, rfl⟩ : ∃ k, m = k + 1 := ⟨m - 1, by omega⟩
      rcases goes hs with resolves | stops
      · rw [resolves, resolves]
        exact ih (by omega) (by omega)
      · rw [stops, stops]

theorem resolveReady_nil {s : State} (hs : s.hits = []) (n : Nat) : resolveReady n s = s := by
  cases n <;> simp [resolveReady, hs]

theorem resolveMany_nil {s : State} (hs : s.hits = []) : ∀ n : Nat, resolveMany n s = s
  | 0 => rfl
  | n + 1 => by rw [resolveMany, resolveHead_nil hs, resolveMany_nil hs n]

section
variable {s : State} {h : Hit} {rest : List Hit} (hs : s.hits = h :: rest)
include hs

theorem resolveReady_succ (n : Nat) :
    resolveReady (n + 1) s = if headReady h s then resolveReady n (resolveHead s) else s := by
  rw [resolveReady, hs]

theorem resolutionTest_waits (hw : headReady h s = false) : resolutionTest s = s := by
  rw [resolutionTest, hs, List.length_cons, resolveReady_succ hs, hw]
  rfl

theorem resolutionTest_resolves (hr : headReady h s = true) : resolutionTest s = resolutionTest (resolveHead s) := by
  rw [resolutionTest, hs, List.length_cons, resolveReady_succ hs, if_pos hr]
  refine fuel_covers resolveReady_nil (fun {t g _} ht => ?_) (resolveHead_length hs) (Nat.le_refl _)
  by_cases ready : headReady g t = true
  · exact .inl fun n => by rw [resolveReady_succ ht, if_pos ready]
  · exact .inr fun n => by rw [resolveReady_succ ht, if_neg ready]

theorem resolveAll_cons : resolveAll s = resolveAll (resolveHead s) := by
  rw [resolveAll, hs]
  exact fuel_covers resolveMany_nil (fun _ => .inl fun _ => rfl) (resolveHead_length hs) (Nat.le_refl _)

end

/-! ### The join of the pending list (R81, R84) -/

theorem joinList_with_room {h : Hit} {s : State} (hr : s.hits.length < 32) :
    joinList h s =
      resolutionTest
        (({ s with hits := insertHit h s.hits } : State).updCounts fun k => { k with hitsClosed := inc32 k.hitsClosed }) := by
  have room : ¬Config.pendingCapacity ≤ s.hits.length := Nat.not_le.2 hr
  unfold joinList
  rw [if_neg room]

theorem joinList_full {h : Hit} {s : State} (hf : 32 ≤ s.hits.length) :
    joinList h s =
      resolutionTest
        (({ earlyResolution s with hits := insertHit h (earlyResolution s).hits } : State).updCounts fun k =>
          { k with hitsClosed := inc32 k.hitsClosed }) := by
  have full : Config.pendingCapacity ≤ s.hits.length := hf
  unfold joinList
  rw [if_pos full]

/-! ### O39 -/

/-- Settles O39, clause by clause from the lemmas above. -/
theorem resolution : Obligations.Resolution := by
  unfold Obligations.Resolution
  refine ⟨?noise, ⟨?firstPair, ?pairZone⟩, ⟨?candidate, ?zones, ?single⟩, ?located, ?insertion, ?joining, ?tests⟩
  case noise =>
    intro s cy h rest hc hs hn
    exact (resolveHead_noise hs hn).trans (updCounts_of_cycle (s := { s with hits := rest }) hc _)
  case firstPair => exact fun _ _ _ _ _ _ _ => findPair_eq_some
  case pairZone =>
    intro h g cands x y lo hi d hxy
    rw [zonePartner_pair_eq_some hxy, and_assoc]
    rfl
  case candidate => exact fun _ _ _ => isCandidate_iff
  case zones => exact fun s => ⟨fun _ _ => mem_zonesInUse, zonesInUse_ascending s⟩
  case single => exact fun _ _ _ _ => findSingle_eq_some
  case located =>
    intro s cy h rest hc hs ht hl zs pair tallied located
    have counted (l : List Hit) := updCounts_of_cycle (s := { s with hits := l }) hc
    refine ⟨fun z r g d hp => ?_, fun hp z r hz => ?_, fun hp hz => ?_⟩
    · rw [resolveHead_pair hs ht hl hp, counted, takeEvent_of_cycle rfl]
      rfl
    · rw [resolveHead_single hs ht hl hp hz, counted, takeEvent_of_cycle rfl]
      rfl
    · exact (resolveHead_unlocated hs ht hl hp hz).trans (counted rest _)
  case insertion =>
    intro h l
    obtain ⟨before, after, split, joined, passed, stop⟩ := insertHit_splits h l
    exact ⟨before, after, split, joined, fun g hg => mt joinsBefore_iff.2 (passed g hg),
      fun g hg => joinsBefore_iff.1 (stop g hg)⟩
  case joining => exact fun h s => ⟨joinList_with_room, joinList_full⟩
  case tests =>
    exact fun s => ⟨fun h => headReady_iff, fun hs => ⟨resolveReady_nil hs _, resolveMany_nil hs _⟩,
      fun h rest hs => ⟨resolutionTest_waits hs, resolutionTest_resolves hs, resolveAll_cons hs⟩⟩

end Sys2Proof.Machine
end

section
/-! When an event scores (R7, R91), and O40. -/

namespace Sys2Proof.Machine

/-- The stroke gate wraps when gate_lo is above gate_hi (R7). -/
theorem inGate_iff {lo hi a : Nat} :
    inGate lo hi a = true ↔ lo ≤ hi ∧ lo ≤ a ∧ a ≤ hi ∨ hi < lo ∧ (lo ≤ a ∨ a ≤ hi) := by
  by_cases wraps : lo ≤ hi
  · simp [inGate, wraps, Nat.not_lt.2 wraps]
  · simp [inGate, wraps, Nat.not_le.1 wraps]

theorem scores_without_angle {d : ZoneDef} {phase : Phase} {area : Nat} :
    scores d phase area none = true ↔
      d.phaseMask.getLsbD phase.number = true ∧ d.minArea ≤ area ∧ d.requirePhase = false := by
  simp [scores, and_assoc]

theorem scores_with_angle {d : ZoneDef} {phase : Phase} {area a : Nat} :
    scores d phase area (some a) = true ↔
      d.phaseMask.getLsbD phase.number = true ∧ d.minArea ≤ area ∧
        (d.gateLo ≤ d.gateHi ∧ d.gateLo ≤ a ∧ a ≤ d.gateHi ∨ d.gateHi < d.gateLo ∧ (d.gateLo ≤ a ∨ a ≤ d.gateHi)) := by
  simp [scores, and_assoc, inGate_iff]

/-- Settles O40, by whether the event has an angle. -/
theorem eventScoring : Obligations.EventScoring := by
  unfold Obligations.EventScoring
  intro d phase area angle
  cases angle with
  | none => exact scores_without_angle
  | some a => exact scores_with_angle

end Sys2Proof.Machine
end

section
/-! The offers to the two lanes (R93, R118, R142-R145), the forwarding stage (R138-R141), and O27. -/

namespace Sys2Proof.Machine

/-! ### The control lane (R93, R118, R144, R145) -/

theorem controlFree_pos_iff {s : State} : 1 ≤ s.controlFree ↔ s.controlFill < 16 := by
  simp only [State.controlFree, Config.controlLaneCapacity]
  omega

theorem reserveOpen_iff {s : State} : reserveOpen s = true ↔ s.controlFill ≤ 11 := by
  rw [reserveOpen, decide_eq_true_iff]
  simp only [State.controlFree, Config.controlLaneCapacity, Config.eventReserve]
  omega

theorem offerReport_enters {s : State} (r : Report) (room : s.controlFill < 16) :
    offerReport r s =
      enterControl (.cycle r) { s with reportLost := s.reportLost && !r.flags.reportLost } := by
  rw [offerReport, if_pos (controlFree_pos_iff.2 room)]
  cases r.flags.reportLost <;> simp

theorem offerReport_loses {s : State} (r : Report) (full : 16 ≤ s.controlFill) :
    offerReport r s =
      raise clsOverflow
        { s.count (fun k => { k with reportsLost := inc16 k.reportsLost }) with reportLost := true } :=
  if_neg (mt controlFree_pos_iff.1 (Nat.not_lt.2 full))

theorem offerEvent_off {s : State} (e : EventRec) (off : s.cfg.eventReports = false) : offerEvent e s = s := by
  simp [offerEvent, off]

theorem offerEvent_enters {s : State} (e : EventRec) (on : s.cfg.eventReports = true) (room : s.controlFill ≤ 11) :
    offerEvent e s = enterControl (.event e) s := by
  simp [offerEvent, on, reserveOpen_iff.2 room]

theorem offerEvent_drops {s : State} (e : EventRec) (on : s.cfg.eventReports = true) (full : 11 < s.controlFill) :
    offerEvent e s = s.count fun k => { k with eventDrops := inc32 k.eventDrops } := by
  have closed : ¬reserveOpen s = true := mt reserveOpen_iff.1 (Nat.not_le.2 full)
  simp [offerEvent, on, closed]

/-! ### The sample lane (R142, R143) -/

section
variable {s : State} (c : Chan) (payload : List Byte) (gap start inHit : Bool)

theorem offerSample_enters (room : s.sampleLane.length < 64) :
    offerSample c payload gap start inHit s =
      arbitrate
        { s.updChan c (fun ch => { ch with gapOwed := false, dropOwed := false }) with
          sampleLane :=
            s.sampleLane ++ [⟨c, payload, start, inHit, gap || (s.chan c).gapOwed, (s.chan c).dropOwed⟩] } :=
  if_pos room

theorem offerSample_drops (full : 64 ≤ s.sampleLane.length) :
    offerSample c payload gap start inHit s =
      raise clsOverflow
        (s.updChan c fun ch =>
          { ch with
            dropOwed := true
            gapOwed := gap || (s.chan c).gapOwed
            cnt := { ch.cnt with forwardedDrops := inc32 ch.cnt.forwardedDrops } }) :=
  if_neg (Nat.not_lt.2 full)

end

theorem offerQueued_eq_foldl (c : Chan) : ∀ (l : List QueuedSample) (s : State),
    offerQueued c l s = l.foldl (fun t q => offerSample c q.payload q.gapBefore false false t) s
  | [], _ => rfl
  | _ :: qs, _ => offerQueued_eq_foldl c qs _

/-! ### The forwarding stage (R138-R141) -/

/-- What AROUND_HITS leaves of post remaining behind a frame (R141). -/
def Channel.postAfter (hitClosed : Bool) (ch : Channel) : Channel :=
  { ch with postRemaining := if ch.det = .inHit then 0 else if hitClosed then ch.post else ch.postRemaining }

theorem forward_drop {s : State} {c : Chan} (payload : List Byte) (gap : Bool) (m : FrameMarks)
    (hp : (s.chan c).policy = .drop) : forward c payload gap m s = s := by
  simp [forward, hp]

theorem forward_all {s : State} {c : Chan} (payload : List Byte) (gap : Bool) (m : FrameMarks)
    (hp : (s.chan c).policy = .all) : forward c payload gap m s = offerSample c payload gap m.hitStarted m.inHit s := by
  simp [forward, hp]

/-- AROUND_HITS offers or queues the frame by its marks, then sets post remaining (R139, R141). -/
theorem forward_aroundHits {s : State} {c : Chan} (payload : List Byte) (gap : Bool) (m : FrameMarks)
    (hp : (s.chan c).policy = .aroundHits) :
    forward c payload gap m s =
      State.updChan
        (if m.hitStarted then
          offerSample c payload gap true m.inHit
            ((s.chan c).preQueue.foldl (fun t q => offerSample c q.payload q.gapBefore false false t)
              (s.updChan c fun ch => { ch with preQueue := [] }))
        else if m.inHit || m.hitClosed then offerSample c payload gap false m.inHit s
        else if 0 < (s.chan c).postRemaining then
          offerSample c payload gap false false
            (s.updChan c fun ch => { ch with postRemaining := ch.postRemaining - 1 })
        else s.updChan c (Channel.enqueuePre ⟨payload, gap⟩))
        c (Channel.postAfter m.hitClosed) := by
  have post : (fun ch : Channel =>
        if ch.det = .inHit then { ch with postRemaining := 0 }
        else if m.hitClosed then { ch with postRemaining := ch.post }
        else ch) = Channel.postAfter m.hitClosed := by
    funext ch
    unfold Channel.postAfter
    split
    · rfl
    · split <;> rfl
  obtain ⟨hitStarted, inHit, hitClosed⟩ := m
  simp only [forward, hp, forwardAroundHits, post, offerQueued_eq_foldl]
  cases hitStarted
  · cases inHit <;> rfl
  · rfl

/-- The pre-trigger queue keeps its latest frames; the gap marks of the ones cut off become owed (R140). -/
theorem enqueuePre_cuts (q : QueuedSample) (ch : Channel) :
    ∃ cut keep : List QueuedSample,
      ch.preQueue ++ [q] = cut ++ keep ∧ keep.length = min (ch.preQueue.length + 1) ch.pre ∧
        ch.enqueuePre q = { ch with preQueue := keep, gapOwed := ch.gapOwed || cut.any (·.gapBefore) } := by
  refine ⟨_, _, (List.take_append_drop ((ch.preQueue ++ [q]).length - ch.pre) _).symm, ?_, rfl⟩
  rw [List.length_drop, List.length_append, List.length_singleton]
  omega

theorem hitEnded_eq (ch : Channel) :
    ch.hitEnded = { ch with postRemaining := if ch.policy = .aroundHits then ch.post else ch.postRemaining } := by
  unfold Channel.hitEnded
  split <;> rfl

/-! ### O27 -/

/-- Settles O27: each offer by whether there is room for it, the forwarding stage by the channel's policy. -/
theorem laneOffers : Obligations.LaneOffers := by
  unfold Obligations.LaneOffers
  refine ⟨?report, ?sample, ?event, ?stage, ?queue⟩
  case report => exact fun r s => ⟨offerReport_enters r, offerReport_loses r⟩
  case sample =>
    exact fun c payload gap start inHit s =>
      ⟨offerSample_enters c payload gap start inHit, offerSample_drops c payload gap start inHit⟩
  case event => exact fun e s => ⟨offerEvent_off e, offerEvent_enters e, offerEvent_drops e⟩
  case stage =>
    exact fun c payload gap m s => ⟨forward_drop payload gap m, forward_all payload gap m, forward_aroundHits payload gap m⟩
  case queue => exact fun q ch => ⟨enqueuePre_cuts q ch, hitEnded_eq ch⟩

end Sys2Proof.Machine
end

section
/-! The evaluation of one zone (R102-R109): its arithmetic, its new state and crack cycle, and O41 and O42. -/

namespace Sys2Proof.Machine

/-! ### The evidence and the successive count (R102-R106) -/

section
variable {d : ZoneDef}

theorem exceeded_iff {t : Tally} : exceeded d t = true ↔ d.countLimit ≤ t.count := decide_eq_true_iff

theorem contribution_eq (t : Tally) : contribution d t = min 65535 (t.areaSum / 2 ^ d.areaShift) := by
  rw [contribution, Nat.shiftRight_eq_div_pow]
  rfl

theorem leaked_eq (e : Nat) (blind : Bool) : leaked d e blind = if blind then e else e - e / 2 ^ d.leakShift := by
  rw [leaked, Nat.shiftRight_eq_div_pow]

theorem newEvidence_eq (e : Nat) (t : Tally) (blind : Bool) :
    newEvidence d e t blind =
      min 65535
        ((if blind then e else e - e / 2 ^ d.leakShift) + min 65535 (t.areaSum / 2 ^ d.areaShift)) := by
  rw [newEvidence, leaked_eq, contribution_eq]
  rfl

theorem newCount_exceeded (n : Nat) (t : Tally) (blind : Bool) :
    newCount n (exceeded d t) blind =
      if d.countLimit ≤ t.count then min 8 (n + 1) else if blind then n else 0 := by
  simp only [newCount, exceeded_iff]
  rfl

/-! ### The new state (R107, R108) -/

variable {st : ZoneState} {n e : Nat} {exc blind : Bool}

theorem crackCondition_iff : crackCondition d n e = true ↔ d.tripCycles ≤ n ∨ d.tripLevel ≤ e := by
  simp [crackCondition]

theorem watchCondition_exceeded_iff {t : Tally} :
    watchCondition d (exceeded d t) e = true ↔ d.countLimit ≤ t.count ∨ d.watchLevel ≤ e := by
  simp [watchCondition, exceeded_iff]

theorem newState_from_crack : newState d .crack n e exc blind = .crack := rfl

theorem newState_cracks (hc : crackCondition d n e = true) : newState d st n e exc blind = .crack := by
  cases st <;> simp [newState, hc]

theorem newState_watches (hs : st ≠ .crack) (hc : ¬crackCondition d n e = true) (hw : watchCondition d exc e = true) :
    newState d st n e exc blind = .watch := by
  cases st with
  | crack => exact absurd rfl hs
  | clear => simp [newState, hc, hw]
  | watch => simp [newState, hc, hw]

theorem newState_from_watch (hc : ¬crackCondition d n e = true) (hw : ¬watchCondition d exc e = true) :
    newState d .watch n e exc blind = if d.watchLevel - d.watchHyst ≤ e ∨ blind = true then .watch else .clear := by
  simp [newState, hc, hw, releaseLevel]

theorem newState_from_clear (hc : ¬crackCondition d n e = true) (hw : ¬watchCondition d exc e = true) :
    newState d .clear n e exc blind = .clear := by
  simp [newState, hc, hw]

/-- CRACK is entered by the crack condition alone. -/
theorem newState_ne_crack (hs : st ≠ .crack) (hc : ¬crackCondition d n e = true) :
    newState d st n e exc blind ≠ .crack := by
  by_cases hw : watchCondition d exc e = true
  · simp [newState_watches hs hc hw]
  · cases st with
    | crack => exact absurd rfl hs
    | clear => simp [newState_from_clear hc hw]
    | watch =>
      rw [newState_from_watch hc hw]
      split <;> simp

end

/-! ### The stored runtime (R108, R109) -/

section
variable (d : ZoneDef) (r : Runtime) (t : Tally) (blind : Bool) (cycle : CycleNumber)

theorem evaluateZone_evidence :
    (evaluateZone d r t blind cycle).evidence = newEvidence d r.evidence t blind := rfl

theorem evaluateZone_count :
    (evaluateZone d r t blind cycle).count = newCount r.count (exceeded d t) blind := rfl

theorem evaluateZone_state :
    (evaluateZone d r t blind cycle).state =
      newState d r.state (evaluateZone d r t blind cycle).count (evaluateZone d r t blind cycle).evidence
        (exceeded d t) blind := rfl

theorem evaluateZone_lastCycle : (evaluateZone d r t blind cycle).lastCycle = some cycle := rfl

variable {d r t blind cycle}

/-- An evaluation that finds the zone in CRACK keeps its crack cycle; one that puts it there stores the present number. -/
theorem evaluateZone_crackCycle_of_crack (h : (evaluateZone d r t blind cycle).state = .crack) :
    (evaluateZone d r t blind cycle).crackCycle = if r.state = .crack then r.crackCycle else some cycle := by
  simp only [evaluateZone] at h ⊢
  rw [h]

theorem evaluateZone_crackCycle_of_ne (h : (evaluateZone d r t blind cycle).state ≠ .crack) :
    (evaluateZone d r t blind cycle).crackCycle = none := by
  simp only [evaluateZone] at h ⊢

end

/-! ### O41 and O42 -/

/-- Settles O41. -/
theorem zoneArithmetic : Obligations.ZoneArithmetic := by
  unfold Obligations.ZoneArithmetic
  intro d r t blind cycle
  rw [evaluateZone_evidence, newEvidence_eq, evaluateZone_count, newCount_exceeded]
  exact ⟨rfl, rfl⟩

/-- Settles O42, line by line of R108's rule. -/
theorem zoneStates : Obligations.ZoneStates := by
  unfold Obligations.ZoneStates
  intro d r t blind cycle out crack watch
  have state := evaluateZone_state d r t blind cycle
  have cracks : crackCondition d out.count out.evidence = true ↔ crack := crackCondition_iff
  have watches : watchCondition d (exceeded d t) out.evidence = true ↔ watch := watchCondition_exceeded_iff
  refine ⟨?stays, ?entered, ?uncracked, ?watched, ?held, ?released, ?clear, evaluateZone_lastCycle d r t blind cycle⟩
  case stays =>
    intro hs
    have inCrack : out.state = .crack := by rw [state, hs, newState_from_crack]
    exact ⟨inCrack, (evaluateZone_crackCycle_of_crack inCrack).trans (if_pos hs)⟩
  case entered =>
    intro hs hc
    have inCrack : out.state = .crack := state.trans (newState_cracks (cracks.2 hc))
    exact ⟨inCrack, (evaluateZone_crackCycle_of_crack inCrack).trans (if_neg hs)⟩
  case uncracked =>
    intro hs hc
    exact evaluateZone_crackCycle_of_ne (newState_ne_crack hs (mt cracks.1 hc))
  case watched => exact fun hs hc hw => state.trans (newState_watches hs (mt cracks.1 hc) (watches.2 hw))
  case held =>
    intro hs hc hw stays
    rw [state, hs, newState_from_watch (mt cracks.1 hc) (mt watches.1 hw), if_pos stays]
  case released =>
    intro hs hc hw below sighted
    have leaves : ¬(d.watchLevel - d.watchHyst ≤ out.evidence ∨ blind = true) :=
      not_or.2 ⟨Nat.not_le.2 below, by simp [sighted]⟩
    rw [state, hs, newState_from_watch (mt cracks.1 hc) (mt watches.1 hw), if_neg leaves]
  case clear =>
    intro hs hc hw
    rw [state, hs, newState_from_clear (mt cracks.1 hc) (mt watches.1 hw)]

end Sys2Proof.Machine
end
